-- ==== Sys2Proof/Word.lean ====
section
/-! DEFINITION. The machine's words: the widths of 00_scope.md rule R3 and 10_state.md rule R24. -/

namespace Sys2Proof

/-- A general register, an address, an instruction word: 32 bits (00_scope.md R3). `u(v)` of rule R5 is
`v.toNat`, `s(v)` is `v.toInt`. -/
abbrev Word := BitVec 32

/-- The unit of the address space (20_memory.md R30). -/
abbrev Byte := BitVec 8

/-- An FP64 register's contents: 64 bits read as signed Q32.32 (10_state.md R24). -/
abbrev FWord := BitVec 64

end Sys2Proof
end

