-- ==== Sys2Proof/Config.lean ====
section
/-! DEFINITION. What the spec leaves to the implementation (00_scope.md rule R4) and the free values. An `opaque` constant has no
body, so whatever is proved holds for every value it may have. The parameters the spec DECIDES (`BYTE_ORDER`, `JUMP_UNIT`) stand in
Decode.lean and Machine/Operands.lean. -/

namespace Sys2Proof

/-- `BYTE_ORDER` of 00_scope.md R4: the order of the bytes of a word or halfword in memory. -/
inductive ByteOrder where
  | little
  | big
  deriving DecidableEq, Repr

/-- The `op` argument of `DIV0` and `DIVOVF` (43_arith_multi.md R171). -/
inductive DivOp where
  | divs
  | divu
  | divfp
  | mods
  | modu
  deriving DecidableEq, Repr

/-- One access presented to a device region, at its aligned byte address (20_memory.md R43). -/
inductive DeviceAccess where
  | read (addr : Nat)
  | write (addr : Nat) (value : Word)
  deriving DecidableEq, Repr

/-- `DIV0(op, A)`: the result of a division or modulo by zero (43_arith_multi.md R171, decision D9). Free value, log entry 8. -/
opaque Config.div0 : DivOp → Word → Word

/-- `DIVOVF(op, A, B)`: the result of a quotient that does not fit (43_arith_multi.md R171, decision D9). Free value, log entry 8. -/
opaque Config.divOvf : DivOp → Word → Word → Word

/-- `DEVICE_ORACLE` of 00_scope.md R4: what a word read of the I/O or a VRAM region at an address returns, after all the device accesses
made before it, newest first (20_memory.md R43). Free value, log entry 6. -/
opaque Config.deviceRead : List DeviceAccess → Nat → Word

/-- `ROM_IMAGE` of 00_scope.md R4, the launch parameter: the byte at each of the 4096 offsets of the boot ROM (20_memory.md R42, decision
D21). Free value, log entry 4. -/
opaque Config.romImage : BitVec 12 → Byte

/-- `IRQ_ENV` of 00_scope.md R4: the requests the devices raise at each enabled interrupt point, bit k for line k (60_exceptions.md R203,
decision D17). Free value, applied to the counter `irqDraws` of State; log entry 5. -/
opaque Config.irqEnv : Nat → BitVec 8

/-- Which of the values a stored-to word has held since the latest CCACHE a fetch of it sees (20_memory.md R52). Free value, applied to
the counter `raceCount` of State and reduced modulo the number of candidates; log entry 7. -/
opaque Config.fetchChoice : Nat → Nat

end Sys2Proof
end

