-- ==== Sys2Proof/Syntax.lean ====
section
/-! DEFINITION. The instructions: one constructor per row of spec/opcode_table.json (30_encoding.md rule R89), destination first as in
the notation of rule R86. A constructor whose name ends in C is the constant form (the table's suffix .C). -/

namespace Sys2Proof

/-- The 4-bit number of a general register (10_state.md R10). -/
abbrev Reg := BitVec 4

/-- The 4-bit field that names an FP64 register: its low 3 bits are the number, and bit 3 is 0 in a canonical encoding
(30_encoding.md R79); `Instr.wellFormed` asks for that. -/
abbrev FReg := BitVec 4

/-- A `const16` field, sign-extended wherever it is used (30_encoding.md R72). -/
abbrev Const16 := BitVec 16

/-- The `const27` field of JUMP (30_encoding.md R72). -/
abbrev Const27 := BitVec 27

/-- The 81 operations (30_encoding.md R89). -/
inductive Instr where
  /-- HALT, 40_control_flow.md R101 -/
  | halt
  /-- READ, 41_memory_access.md R121 -/
  | read (d a : Reg) (c : Const16)
  /-- READB, 41_memory_access.md R122 -/
  | readb (d a : Reg) (c : Const16)
  /-- READBU, 41_memory_access.md R123 -/
  | readbu (d a : Reg) (c : Const16)
  /-- READH, 41_memory_access.md R124 -/
  | readh (d a : Reg) (c : Const16)
  /-- READHU, 41_memory_access.md R125 -/
  | readhu (d a : Reg) (c : Const16)
  /-- WRITE, 41_memory_access.md R126: b is the value, a the base -/
  | write (b a : Reg) (c : Const16)
  /-- WRITEB, 41_memory_access.md R127: b is the value, a the base -/
  | writeb (b a : Reg) (c : Const16)
  /-- WRITEH, 41_memory_access.md R128: b is the value, a the base -/
  | writeh (b a : Reg) (c : Const16)
  /-- INTID, 44_misc.md R180 -/
  | intid (d : Reg)
  /-- PUSH, 41_memory_access.md R129 -/
  | push (b : Reg)
  /-- POP, 41_memory_access.md R130 -/
  | pop (d : Reg)
  /-- JUMP (O = 0), 40_control_flow.md R102 -/
  | jump (c : Const27)
  /-- JUMPO (O = 1), 40_control_flow.md R103 -/
  | jumpo (c : Const27)
  /-- JUMPR (O = 0), 40_control_flow.md R104 -/
  | jumpr (b : Reg) (c : Const16)
  /-- JUMPRO (O = 1), 40_control_flow.md R105 -/
  | jumpro (b : Reg) (c : Const16)
  /-- CCACHE, 44_misc.md R181 -/
  | ccache
  /-- BEQ, 40_control_flow.md R107 -/
  | beq (a b : Reg) (c : Const16)
  /-- BNE, 40_control_flow.md R108 -/
  | bne (a b : Reg) (c : Const16)
  /-- BGT, 40_control_flow.md R109 -/
  | bgt (a b : Reg) (c : Const16)
  /-- BGE, 40_control_flow.md R110 -/
  | bge (a b : Reg) (c : Const16)
  /-- BLT, 40_control_flow.md R111 -/
  | blt (a b : Reg) (c : Const16)
  /-- BLE, 40_control_flow.md R112 -/
  | ble (a b : Reg) (c : Const16)
  /-- BGTS, 40_control_flow.md R113 -/
  | bgts (a b : Reg) (c : Const16)
  /-- BGES, 40_control_flow.md R114 -/
  | bges (a b : Reg) (c : Const16)
  /-- BLTS, 40_control_flow.md R115 -/
  | blts (a b : Reg) (c : Const16)
  /-- BLES, 40_control_flow.md R116 -/
  | bles (a b : Reg) (c : Const16)
  /-- SAVPC, 40_control_flow.md R117 -/
  | savpc (d : Reg)
  /-- RETI, 40_control_flow.md R118 -/
  | reti
  /-- OR, register form, 42_arith_single.md R141 -/
  | or (d a b : Reg)
  /-- AND, register form, 42_arith_single.md R142 -/
  | and (d a b : Reg)
  /-- XOR, register form, 42_arith_single.md R143 -/
  | xor (d a b : Reg)
  /-- ADD, register form, 42_arith_single.md R144 -/
  | add (d a b : Reg)
  /-- SUB, register form, 42_arith_single.md R145 -/
  | sub (d a b : Reg)
  /-- SHIFTL, register form, 42_arith_single.md R146 -/
  | shiftl (d a b : Reg)
  /-- SHIFTR, register form, 42_arith_single.md R147 -/
  | shiftr (d a b : Reg)
  /-- NOT, register form, 42_arith_single.md R148 -/
  | not (d a b : Reg)
  /-- SLT, register form, 42_arith_single.md R149 -/
  | slt (d a b : Reg)
  /-- SLTU, register form, 42_arith_single.md R150 -/
  | sltu (d a b : Reg)
  /-- LOAD, register form, 42_arith_single.md R151 -/
  | load (d a b : Reg)
  /-- LOADHI, register form, 42_arith_single.md R152 -/
  | loadhi (d a b : Reg)
  /-- SHIFTRS, register form, 42_arith_single.md R153 -/
  | shiftrs (d a b : Reg)
  /-- OR, constant form, 42_arith_single.md R141 -/
  | orC (d a : Reg) (c : Const16)
  /-- AND, constant form, 42_arith_single.md R142 -/
  | andC (d a : Reg) (c : Const16)
  /-- XOR, constant form, 42_arith_single.md R143 -/
  | xorC (d a : Reg) (c : Const16)
  /-- ADD, constant form, 42_arith_single.md R144 -/
  | addC (d a : Reg) (c : Const16)
  /-- SUB, constant form, 42_arith_single.md R145 -/
  | subC (d a : Reg) (c : Const16)
  /-- SHIFTL, constant form, 42_arith_single.md R146 -/
  | shiftlC (d a : Reg) (c : Const16)
  /-- SHIFTR, constant form, 42_arith_single.md R147 -/
  | shiftrC (d a : Reg) (c : Const16)
  /-- NOT, constant form, 42_arith_single.md R148 -/
  | notC (d a : Reg) (c : Const16)
  /-- SLT, constant form, 42_arith_single.md R149 -/
  | sltC (d a : Reg) (c : Const16)
  /-- SLTU, constant form, 42_arith_single.md R150 -/
  | sltuC (d a : Reg) (c : Const16)
  /-- LOAD, constant form, 42_arith_single.md R151 -/
  | loadC (d a : Reg) (c : Const16)
  /-- LOADHI, constant form, 42_arith_single.md R152 -/
  | loadhiC (d a : Reg) (c : Const16)
  /-- SHIFTRS, constant form, 42_arith_single.md R153 -/
  | shiftrsC (d a : Reg) (c : Const16)
  /-- MULTS, register form, 43_arith_multi.md R161 -/
  | mults (d a b : Reg)
  /-- MULTU, register form, 43_arith_multi.md R162 -/
  | multu (d a b : Reg)
  /-- MULTFP, register form, 43_arith_multi.md R163 -/
  | multfp (d a b : Reg)
  /-- DIVS, register form, 43_arith_multi.md R164 -/
  | divs (d a b : Reg)
  /-- DIVU, register form, 43_arith_multi.md R165 -/
  | divu (d a b : Reg)
  /-- DIVFP, register form, 43_arith_multi.md R166 -/
  | divfp (d a b : Reg)
  /-- MODS, register form, 43_arith_multi.md R167 -/
  | mods (d a b : Reg)
  /-- MODU, register form, 43_arith_multi.md R168 -/
  | modu (d a b : Reg)
  /-- MULSHI, register form, 43_arith_multi.md R169 -/
  | mulshi (d a b : Reg)
  /-- MULTUHI, register form, 43_arith_multi.md R170 -/
  | multuhi (d a b : Reg)
  /-- MULTS, constant form, 43_arith_multi.md R161 -/
  | multsC (d a : Reg) (c : Const16)
  /-- MULTU, constant form, 43_arith_multi.md R162 -/
  | multuC (d a : Reg) (c : Const16)
  /-- MULTFP, constant form, 43_arith_multi.md R163 -/
  | multfpC (d a : Reg) (c : Const16)
  /-- DIVS, constant form, 43_arith_multi.md R164 -/
  | divsC (d a : Reg) (c : Const16)
  /-- DIVU, constant form, 43_arith_multi.md R165 -/
  | divuC (d a : Reg) (c : Const16)
  /-- DIVFP, constant form, 43_arith_multi.md R166 -/
  | divfpC (d a : Reg) (c : Const16)
  /-- MODS, constant form, 43_arith_multi.md R167 -/
  | modsC (d a : Reg) (c : Const16)
  /-- MODU, constant form, 43_arith_multi.md R168 -/
  | moduC (d a : Reg) (c : Const16)
  /-- MULSHI, constant form, 43_arith_multi.md R169 -/
  | mulshiC (d a : Reg) (c : Const16)
  /-- MULTUHI, constant form, 43_arith_multi.md R170 -/
  | multuhiC (d a : Reg) (c : Const16)
  /-- FMUL, 45_fp64.md R186 -/
  | fmul (fd fa fb : FReg)
  /-- FADD, 45_fp64.md R187 -/
  | fadd (fd fa fb : FReg)
  /-- FSUB, 45_fp64.md R188 -/
  | fsub (fd fa fb : FReg)
  /-- FLD, 45_fp64.md R189 -/
  | fld (fd : FReg) (a b : Reg)
  /-- FSTHI, 45_fp64.md R190 -/
  | fsthi (d : Reg) (fa : FReg)
  /-- FSTLO, 45_fp64.md R191 -/
  | fstlo (d : Reg) (fa : FReg)
  deriving DecidableEq, Repr

end Sys2Proof
end

