-- ==== Sys2Proof/WellFormed.lean ====
section
/-! DEFINITION. Which instructions an encoding can spell. The types of `Instr` carry every bound but one: a field that names an FP64
register has four bits, of which an encoding uses the low three (30_encoding.md rule R79). -/

namespace Sys2Proof

/-- The field names an FP64 register canonically: bit 3 is 0 (30_encoding.md R79, "0 in canonical encodings"). -/
def FReg.canonical (f : FReg) : Bool := f.toNat < 8

/-- An instruction some encoding spells (30_encoding.md R79, R89). -/
def Instr.wellFormed : Instr → Bool
  | .halt | .ccache | .reti => true
  | .read _ _ _ | .readb _ _ _ | .readbu _ _ _ | .readh _ _ _ | .readhu _ _ _ => true
  | .write _ _ _ | .writeb _ _ _ | .writeh _ _ _ => true
  | .intid _ | .push _ | .pop _ | .savpc _ => true
  | .jump _ | .jumpo _ | .jumpr _ _ | .jumpro _ _ => true
  | .beq _ _ _ | .bne _ _ _ | .bgt _ _ _ | .bge _ _ _ | .blt _ _ _ | .ble _ _ _ => true
  | .bgts _ _ _ | .bges _ _ _ | .blts _ _ _ | .bles _ _ _ => true
  | .or _ _ _ | .and _ _ _ | .xor _ _ _ | .add _ _ _ | .sub _ _ _ | .shiftl _ _ _ | .shiftr _ _ _ => true
  | .not _ _ _ | .slt _ _ _ | .sltu _ _ _ | .load _ _ _ | .loadhi _ _ _ | .shiftrs _ _ _ => true
  | .orC _ _ _ | .andC _ _ _ | .xorC _ _ _ | .addC _ _ _ | .subC _ _ _ | .shiftlC _ _ _ | .shiftrC _ _ _ => true
  | .notC _ _ _ | .sltC _ _ _ | .sltuC _ _ _ | .loadC _ _ _ | .loadhiC _ _ _ | .shiftrsC _ _ _ => true
  | .mults _ _ _ | .multu _ _ _ | .multfp _ _ _ | .divs _ _ _ | .divu _ _ _ | .divfp _ _ _ => true
  | .mods _ _ _ | .modu _ _ _ | .mulshi _ _ _ | .multuhi _ _ _ => true
  | .multsC _ _ _ | .multuC _ _ _ | .multfpC _ _ _ | .divsC _ _ _ | .divuC _ _ _ | .divfpC _ _ _ => true
  | .modsC _ _ _ | .moduC _ _ _ | .mulshiC _ _ _ | .multuhiC _ _ _ => true
  | .fmul fd fa fb | .fadd fd fa fb | .fsub fd fa fb => fd.canonical && fa.canonical && fb.canonical
  | .fld fd _ _ => fd.canonical
  | .fsthi _ fa | .fstlo _ fa => fa.canonical

end Sys2Proof
end

