-- ==== Sys2Proof/Decode.lean ====
section
/-! DEFINITION. Decoding and encoding: 30_encoding.md rules R60 to R82. Fields are pulled out here, once. The decoder is total on any
bytes and rejects by name; the encoder after it writes the canonical word of an instruction. -/

namespace Sys2Proof

/-! ## Bytes and words -/

/-- `BYTE_ORDER` (20_memory.md R34, decision D1): little-endian, for data and fetch alike. Log entry 9. -/
def byteOrder : ByteOrder := .little

/-- The halfword whose bytes lie at `a` and `a+1` (20_memory.md R34). -/
def halfOfBytes (b0 b1 : Byte) : BitVec 16 :=
  match byteOrder with
  | .little => b1 ++ b0
  | .big => b0 ++ b1

/-- The word whose bytes lie at `a` to `a+3` (20_memory.md R34). -/
def wordOfBytes (b0 b1 b2 b3 : Byte) : Word :=
  match byteOrder with
  | .little => b3 ++ b2 ++ b1 ++ b0
  | .big => b0 ++ b1 ++ b2 ++ b3

/-- The bytes of a halfword in the order they lie in memory, lowest address first (20_memory.md R38). -/
def bytesOfHalf (v : BitVec 16) : List Byte :=
  match byteOrder with
  | .little => [v.extractLsb' 0 8, v.extractLsb' 8 8]
  | .big => [v.extractLsb' 8 8, v.extractLsb' 0 8]

/-- The bytes of a word in the order they lie in memory, lowest address first (20_memory.md R38). -/
def bytesOfWord (v : Word) : List Byte :=
  match byteOrder with
  | .little => [v.extractLsb' 0 8, v.extractLsb' 8 8, v.extractLsb' 16 8, v.extractLsb' 24 8]
  | .big => [v.extractLsb' 24 8, v.extractLsb' 16 8, v.extractLsb' 8 8, v.extractLsb' 0 8]

/-! ## Fields -/

/-- `w[hi:lo]` as an unsigned integer (00_scope.md R5). -/
def field (w : Word) (hi lo : Nat) : Nat := w.toNat / 2 ^ lo % 2 ^ (hi - lo + 1)

/-- The general register number whose low bit is bit `lo` (30_encoding.md R63 to R71). -/
def regField (w : Word) (lo : Nat) : Reg := BitVec.ofNat 4 (field w (lo + 3) lo)

/-- The FP64 register number whose low bit is bit `lo`; the fourth bit is ignored (30_encoding.md R79). -/
def fregField (w : Word) (lo : Nat) : FReg := BitVec.ofNat 4 (field w (lo + 2) lo)

/-- The 16-bit constant whose low bit is bit `lo` (30_encoding.md R63, R71). -/
def const16Field (w : Word) (lo : Nat) : Const16 := BitVec.ofNat 16 (field w (lo + 15) lo)

/-- The 27-bit constant of JUMP (30_encoding.md R67). -/
def const27Field (w : Word) : Const27 := BitVec.ofNat 27 (field w 27 1)

/-! ## The decoder -/

/-- Why bytes spell no instruction: the six classes of 30_encoding.md R81, and too few bytes. -/
inductive DecodeError where
  /-- R81 (a): ARITH or ARITHC with ALU opcode 1000, 1001 or 1111 -/
  | reservedArith
  /-- R81 (b): BRANCH with branch opcode 011 or 111 -/
  | reservedBranch
  /-- R81 (c): READ with an unlisted sub-opcode -/
  | reservedRead
  /-- R81 (d): WRITE with an unlisted sub-opcode -/
  | reservedWrite
  /-- R81 (e): ARITHMC with ALU opcode 1000 to 1101 -/
  | reservedArithmc
  /-- R81 (f): primary opcode 1111 and not 0xFFFFFFFF -/
  | reservedHalt
  /-- fewer than four bytes (every instruction is one word, R60) -/
  | truncated
  deriving DecidableEq, Repr

/-- HALT is the one word 0xFFFFFFFF (30_encoding.md R62, R82, decision D26; log entry 16). -/
def decodeHalt (w : Word) : Except DecodeError Instr :=
  if w = 0xFFFFFFFF#32 then .ok .halt else .error .reservedHalt

/-- READ, sub-opcode in bits 7:4 (30_encoding.md R63, R74). -/
def decodeRead (w : Word) : Except DecodeError Instr :=
  match field w 7 4 with
  | 0 => .ok (.read (regField w 0) (regField w 8) (const16Field w 12))
  | 1 => .ok (.readb (regField w 0) (regField w 8) (const16Field w 12))
  | 5 => .ok (.readbu (regField w 0) (regField w 8) (const16Field w 12))
  | 2 => .ok (.readh (regField w 0) (regField w 8) (const16Field w 12))
  | 6 => .ok (.readhu (regField w 0) (regField w 8) (const16Field w 12))
  | _ => .error .reservedRead

/-- WRITE, sub-opcode in bits 3:0 (30_encoding.md R64, R75). -/
def decodeWrite (w : Word) : Except DecodeError Instr :=
  match field w 3 0 with
  | 0 => .ok (.write (regField w 4) (regField w 8) (const16Field w 12))
  | 1 => .ok (.writeb (regField w 4) (regField w 8) (const16Field w 12))
  | 2 => .ok (.writeh (regField w 4) (regField w 8) (const16Field w 12))
  | _ => .error .reservedWrite

/-- JUMP, O in bit 0 (30_encoding.md R67). -/
def decodeJump (w : Word) : Instr :=
  if field w 0 0 = 0 then .jump (const27Field w) else .jumpo (const27Field w)

/-- JUMPR, O in bit 0 (30_encoding.md R68). -/
def decodeJumpr (w : Word) : Instr :=
  if field w 0 0 = 0 then .jumpr (regField w 4) (const16Field w 12) else .jumpro (regField w 4) (const16Field w 12)

/-- BRANCH, branch opcode in bits 3:1 and S in bit 0; S means nothing to BEQ and BNE (30_encoding.md R69, R76). -/
def decodeBranch (w : Word) : Except DecodeError Instr :=
  match field w 3 0 with
  | 0 | 1 => .ok (.beq (regField w 8) (regField w 4) (const16Field w 12))
  | 2 => .ok (.bgt (regField w 8) (regField w 4) (const16Field w 12))
  | 3 => .ok (.bgts (regField w 8) (regField w 4) (const16Field w 12))
  | 4 => .ok (.bge (regField w 8) (regField w 4) (const16Field w 12))
  | 5 => .ok (.bges (regField w 8) (regField w 4) (const16Field w 12))
  | 8 | 9 => .ok (.bne (regField w 8) (regField w 4) (const16Field w 12))
  | 10 => .ok (.blt (regField w 8) (regField w 4) (const16Field w 12))
  | 11 => .ok (.blts (regField w 8) (regField w 4) (const16Field w 12))
  | 12 => .ok (.ble (regField w 8) (regField w 4) (const16Field w 12))
  | 13 => .ok (.bles (regField w 8) (regField w 4) (const16Field w 12))
  | _ => .error .reservedBranch

/-- ARITHMC, ALU opcode in bits 27:24 (30_encoding.md R71, R78); the FP64 opcodes exist under ARITHM only. -/
def decodeArithmc (w : Word) : Except DecodeError Instr :=
  match field w 27 24 with
  | 0 => .ok (.multsC (regField w 0) (regField w 4) (const16Field w 8))
  | 1 => .ok (.multuC (regField w 0) (regField w 4) (const16Field w 8))
  | 2 => .ok (.multfpC (regField w 0) (regField w 4) (const16Field w 8))
  | 3 => .ok (.divsC (regField w 0) (regField w 4) (const16Field w 8))
  | 4 => .ok (.divuC (regField w 0) (regField w 4) (const16Field w 8))
  | 5 => .ok (.divfpC (regField w 0) (regField w 4) (const16Field w 8))
  | 6 => .ok (.modsC (regField w 0) (regField w 4) (const16Field w 8))
  | 7 => .ok (.moduC (regField w 0) (regField w 4) (const16Field w 8))
  | 14 => .ok (.mulshiC (regField w 0) (regField w 4) (const16Field w 8))
  | 15 => .ok (.multuhiC (regField w 0) (regField w 4) (const16Field w 8))
  | _ => .error .reservedArithmc

/-- ARITHM, ALU opcode in bits 27:24: sixteen assigned values, the last named being 1111 (30_encoding.md R71, R78, R79). -/
def decodeArithm (w : Word) : Instr :=
  match field w 27 24 with
  | 0 => .mults (regField w 0) (regField w 8) (regField w 4)
  | 1 => .multu (regField w 0) (regField w 8) (regField w 4)
  | 2 => .multfp (regField w 0) (regField w 8) (regField w 4)
  | 3 => .divs (regField w 0) (regField w 8) (regField w 4)
  | 4 => .divu (regField w 0) (regField w 8) (regField w 4)
  | 5 => .divfp (regField w 0) (regField w 8) (regField w 4)
  | 6 => .mods (regField w 0) (regField w 8) (regField w 4)
  | 7 => .modu (regField w 0) (regField w 8) (regField w 4)
  | 8 => .fmul (fregField w 0) (fregField w 8) (fregField w 4)
  | 9 => .fadd (fregField w 0) (fregField w 8) (fregField w 4)
  | 10 => .fsub (fregField w 0) (fregField w 8) (fregField w 4)
  | 11 => .fld (fregField w 0) (regField w 8) (regField w 4)
  | 12 => .fsthi (regField w 0) (fregField w 8)
  | 13 => .fstlo (regField w 0) (fregField w 8)
  | 14 => .mulshi (regField w 0) (regField w 8) (regField w 4)
  | _ => .multuhi (regField w 0) (regField w 8) (regField w 4)

/-- ARITHC, ALU opcode in bits 27:24 (30_encoding.md R71, R77). -/
def decodeArithc (w : Word) : Except DecodeError Instr :=
  match field w 27 24 with
  | 0 => .ok (.orC (regField w 0) (regField w 4) (const16Field w 8))
  | 1 => .ok (.andC (regField w 0) (regField w 4) (const16Field w 8))
  | 2 => .ok (.xorC (regField w 0) (regField w 4) (const16Field w 8))
  | 3 => .ok (.addC (regField w 0) (regField w 4) (const16Field w 8))
  | 4 => .ok (.subC (regField w 0) (regField w 4) (const16Field w 8))
  | 5 => .ok (.shiftlC (regField w 0) (regField w 4) (const16Field w 8))
  | 6 => .ok (.shiftrC (regField w 0) (regField w 4) (const16Field w 8))
  | 7 => .ok (.notC (regField w 0) (regField w 4) (const16Field w 8))
  | 10 => .ok (.sltC (regField w 0) (regField w 4) (const16Field w 8))
  | 11 => .ok (.sltuC (regField w 0) (regField w 4) (const16Field w 8))
  | 12 => .ok (.loadC (regField w 0) (regField w 4) (const16Field w 8))
  | 13 => .ok (.loadhiC (regField w 0) (regField w 4) (const16Field w 8))
  | 14 => .ok (.shiftrsC (regField w 0) (regField w 4) (const16Field w 8))
  | _ => .error .reservedArith

/-- ARITH, ALU opcode in bits 27:24 (30_encoding.md R71, R77). -/
def decodeArith (w : Word) : Except DecodeError Instr :=
  match field w 27 24 with
  | 0 => .ok (.or (regField w 0) (regField w 8) (regField w 4))
  | 1 => .ok (.and (regField w 0) (regField w 8) (regField w 4))
  | 2 => .ok (.xor (regField w 0) (regField w 8) (regField w 4))
  | 3 => .ok (.add (regField w 0) (regField w 8) (regField w 4))
  | 4 => .ok (.sub (regField w 0) (regField w 8) (regField w 4))
  | 5 => .ok (.shiftl (regField w 0) (regField w 8) (regField w 4))
  | 6 => .ok (.shiftr (regField w 0) (regField w 8) (regField w 4))
  | 7 => .ok (.not (regField w 0) (regField w 8) (regField w 4))
  | 10 => .ok (.slt (regField w 0) (regField w 8) (regField w 4))
  | 11 => .ok (.sltu (regField w 0) (regField w 8) (regField w 4))
  | 12 => .ok (.load (regField w 0) (regField w 8) (regField w 4))
  | 13 => .ok (.loadhi (regField w 0) (regField w 8) (regField w 4))
  | 14 => .ok (.shiftrs (regField w 0) (regField w 8) (regField w 4))
  | _ => .error .reservedArith

/-- The primary opcode map (30_encoding.md R61): all sixteen values of bits 31:28 are assigned, the last named being 0000. Bits marked
"x" are not looked at (R80, decision D5; log entry 15). -/
def decodeWord (w : Word) : Except DecodeError Instr :=
  match field w 31 28 with
  | 15 => decodeHalt w
  | 14 => decodeRead w
  | 13 => decodeWrite w
  | 12 => .ok (.intid (regField w 0))
  | 11 => .ok (.push (regField w 4))
  | 10 => .ok (.pop (regField w 0))
  | 9 => .ok (decodeJump w)
  | 8 => .ok (decodeJumpr w)
  | 7 => .ok .ccache
  | 6 => decodeBranch w
  | 5 => .ok (.savpc (regField w 0))
  | 4 => .ok .reti
  | 3 => decodeArithmc w
  | 2 => .ok (decodeArithm w)
  | 1 => decodeArithc w
  | _ => decodeArith w

/-- Decoding of the bytes as they lie in memory, lowest address first: one instruction and the bytes after it (30_encoding.md R60). -/
def decode : List Byte → Except DecodeError (Instr × List Byte)
  | b0 :: b1 :: b2 :: b3 :: rest =>
    match decodeWord (wordOfBytes b0 b1 b2 b3) with
    | .ok i => .ok (i, rest)
    | .error e => .error e
  | _ => .error .truncated

/-! ## The encoder -/

/-- A word with a constant in bits 27:12 and three nibbles below it (30_encoding.md R63, R64, R68, R69). -/
def packConstHigh (op : Nat) (c : Const16) (n2 n1 n0 : Nat) : Word :=
  BitVec.ofNat 32 (op * 2 ^ 28 + c.toNat * 2 ^ 12 + n2 * 2 ^ 8 + n1 * 2 ^ 4 + n0)

/-- A word with a constant in bits 23:8, the constant form of ARITHC and ARITHMC (30_encoding.md R71). -/
def packConstForm (op aop : Nat) (d a : Reg) (c : Const16) : Word :=
  BitVec.ofNat 32 (op * 2 ^ 28 + aop * 2 ^ 24 + c.toNat * 2 ^ 8 + a.toNat * 2 ^ 4 + d.toNat)

/-- The register form of ARITH and ARITHM, x bits 0 (30_encoding.md R71); also a D-only, PUSH or no-operand word. -/
def packRegForm (op aop n2 n1 n0 : Nat) : Word :=
  BitVec.ofNat 32 (op * 2 ^ 28 + aop * 2 ^ 24 + n2 * 2 ^ 8 + n1 * 2 ^ 4 + n0)

/-- The word of JUMP (30_encoding.md R67). -/
def packJump (c : Const27) (o : Nat) : Word := BitVec.ofNat 32 (9 * 2 ^ 28 + c.toNat * 2 + o)

/-- The canonical word of an instruction: every x bit 0, S = 0 for BEQ and BNE (30_encoding.md R62 to R80). -/
def encodeWord : Instr → Word
  | .halt => 0xFFFFFFFF#32
  | .read d a c => packConstHigh 14 c a.toNat 0 d.toNat
  | .readb d a c => packConstHigh 14 c a.toNat 1 d.toNat
  | .readbu d a c => packConstHigh 14 c a.toNat 5 d.toNat
  | .readh d a c => packConstHigh 14 c a.toNat 2 d.toNat
  | .readhu d a c => packConstHigh 14 c a.toNat 6 d.toNat
  | .write b a c => packConstHigh 13 c a.toNat b.toNat 0
  | .writeb b a c => packConstHigh 13 c a.toNat b.toNat 1
  | .writeh b a c => packConstHigh 13 c a.toNat b.toNat 2
  | .intid d => packRegForm 12 0 0 0 d.toNat
  | .push b => packRegForm 11 0 0 b.toNat 0
  | .pop d => packRegForm 10 0 0 0 d.toNat
  | .jump c => packJump c 0
  | .jumpo c => packJump c 1
  | .jumpr b c => packConstHigh 8 c 0 b.toNat 0
  | .jumpro b c => packConstHigh 8 c 0 b.toNat 1
  | .ccache => packRegForm 7 0 0 0 0
  | .beq a b c => packConstHigh 6 c a.toNat b.toNat 0
  | .bne a b c => packConstHigh 6 c a.toNat b.toNat 8
  | .bgt a b c => packConstHigh 6 c a.toNat b.toNat 2
  | .bge a b c => packConstHigh 6 c a.toNat b.toNat 4
  | .blt a b c => packConstHigh 6 c a.toNat b.toNat 10
  | .ble a b c => packConstHigh 6 c a.toNat b.toNat 12
  | .bgts a b c => packConstHigh 6 c a.toNat b.toNat 3
  | .bges a b c => packConstHigh 6 c a.toNat b.toNat 5
  | .blts a b c => packConstHigh 6 c a.toNat b.toNat 11
  | .bles a b c => packConstHigh 6 c a.toNat b.toNat 13
  | .savpc d => packRegForm 5 0 0 0 d.toNat
  | .reti => packRegForm 4 0 0 0 0
  | .or d a b => packRegForm 0 0 a.toNat b.toNat d.toNat
  | .and d a b => packRegForm 0 1 a.toNat b.toNat d.toNat
  | .xor d a b => packRegForm 0 2 a.toNat b.toNat d.toNat
  | .add d a b => packRegForm 0 3 a.toNat b.toNat d.toNat
  | .sub d a b => packRegForm 0 4 a.toNat b.toNat d.toNat
  | .shiftl d a b => packRegForm 0 5 a.toNat b.toNat d.toNat
  | .shiftr d a b => packRegForm 0 6 a.toNat b.toNat d.toNat
  | .not d a b => packRegForm 0 7 a.toNat b.toNat d.toNat
  | .slt d a b => packRegForm 0 10 a.toNat b.toNat d.toNat
  | .sltu d a b => packRegForm 0 11 a.toNat b.toNat d.toNat
  | .load d a b => packRegForm 0 12 a.toNat b.toNat d.toNat
  | .loadhi d a b => packRegForm 0 13 a.toNat b.toNat d.toNat
  | .shiftrs d a b => packRegForm 0 14 a.toNat b.toNat d.toNat
  | .orC d a c => packConstForm 1 0 d a c
  | .andC d a c => packConstForm 1 1 d a c
  | .xorC d a c => packConstForm 1 2 d a c
  | .addC d a c => packConstForm 1 3 d a c
  | .subC d a c => packConstForm 1 4 d a c
  | .shiftlC d a c => packConstForm 1 5 d a c
  | .shiftrC d a c => packConstForm 1 6 d a c
  | .notC d a c => packConstForm 1 7 d a c
  | .sltC d a c => packConstForm 1 10 d a c
  | .sltuC d a c => packConstForm 1 11 d a c
  | .loadC d a c => packConstForm 1 12 d a c
  | .loadhiC d a c => packConstForm 1 13 d a c
  | .shiftrsC d a c => packConstForm 1 14 d a c
  | .mults d a b => packRegForm 2 0 a.toNat b.toNat d.toNat
  | .multu d a b => packRegForm 2 1 a.toNat b.toNat d.toNat
  | .multfp d a b => packRegForm 2 2 a.toNat b.toNat d.toNat
  | .divs d a b => packRegForm 2 3 a.toNat b.toNat d.toNat
  | .divu d a b => packRegForm 2 4 a.toNat b.toNat d.toNat
  | .divfp d a b => packRegForm 2 5 a.toNat b.toNat d.toNat
  | .mods d a b => packRegForm 2 6 a.toNat b.toNat d.toNat
  | .modu d a b => packRegForm 2 7 a.toNat b.toNat d.toNat
  | .mulshi d a b => packRegForm 2 14 a.toNat b.toNat d.toNat
  | .multuhi d a b => packRegForm 2 15 a.toNat b.toNat d.toNat
  | .multsC d a c => packConstForm 3 0 d a c
  | .multuC d a c => packConstForm 3 1 d a c
  | .multfpC d a c => packConstForm 3 2 d a c
  | .divsC d a c => packConstForm 3 3 d a c
  | .divuC d a c => packConstForm 3 4 d a c
  | .divfpC d a c => packConstForm 3 5 d a c
  | .modsC d a c => packConstForm 3 6 d a c
  | .moduC d a c => packConstForm 3 7 d a c
  | .mulshiC d a c => packConstForm 3 14 d a c
  | .multuhiC d a c => packConstForm 3 15 d a c
  | .fmul fd fa fb => packRegForm 2 8 fa.toNat fb.toNat fd.toNat
  | .fadd fd fa fb => packRegForm 2 9 fa.toNat fb.toNat fd.toNat
  | .fsub fd fa fb => packRegForm 2 10 fa.toNat fb.toNat fd.toNat
  | .fld fd a b => packRegForm 2 11 a.toNat b.toNat fd.toNat
  | .fsthi d fa => packRegForm 2 12 fa.toNat 0 d.toNat
  | .fstlo d fa => packRegForm 2 13 fa.toNat 0 d.toNat

/-- The bytes of an instruction as they lie in memory. -/
def encode (i : Instr) : List Byte := bytesOfWord (encodeWord i)

/-- The instruction the decoder reads from a row's word `w` of `nbits` bits, laid out in memory bytes (spec/opcode_table.json's
numbering: bit 0 is the least significant bit of the one 32-bit word; bits above `nbits` are 0). -/
def decodeTableWord (nbits w : Nat) : Option Instr :=
  match decode (bytesOfWord (BitVec.ofNat 32 (w % 2 ^ nbits))) with
  | .ok (i, _) => some i
  | .error _ => none

end Sys2Proof
end

