-- ==== Sys2Proof/Machine/State.lean ====
section
/-! DEFINITION. The machine's state as plain data (10_state.md section 1 and rule R28), the reasons a step can stop (00_scope.md R7),
and the state after reset (10_state.md R27, 70_reset_and_hazards.md R230). -/

namespace Sys2Proof.Machine

/-- The bytes of a memory that hold a given value, as (address, byte) pairs with strictly rising addresses; the fields `mem` and `rom` of
State say what an unlisted byte is. Read and written through `Memory.read` and `Memory.write`. -/
abbrev Memory := List Host.Cell

/-- The canonical form: addresses strictly rising. (No entry of `mem` can equal what an unlisted
address reads as, which is no value.) -/
abbrev Memory.wf (m : Memory) : Prop := m.Pairwise (fun x y => x.1 < y.1)

/-- One WRITE to SDRAM: the word-aligned address of the word it touched and the value the word had before it (none if a byte of it had
no value) (20_memory.md R52). -/
structure StoreRecord where
  addr : Nat
  before : Option Word
  deriving DecidableEq, Repr

/-- `IRQ_ENV`, which 60_exceptions.md R203 leaves open and lets a deterministic run fix (decision D17). -/
inductive InterruptEnv where
  /-- open: at each enabled interrupt point `Config.irqEnv` says what is raised -/
  | free
  /-- fixed: what is raised at each coming enabled interrupt point, and nothing beyond the end (`schedule []` is "never") -/
  | schedule (rest : List (BitVec 8))
  deriving DecidableEq, Repr

/-- The machine's state. -/
structure State where
  /-- r1..r15 (10_state.md R10); r0 has no storage (R11). Read and written through `readReg` and `writeReg`. -/
  gpr : Vector Word 15
  /-- The address of the instruction being executed (10_state.md R13). -/
  pc : Word
  /-- STACK[0..255], outside the address space (10_state.md R16). -/
  stack : Vector Word 256
  /-- SP, the next free stack entry, modulo 256 (10_state.md R17). -/
  sp : BitVec 8
  /-- PC_backup (10_state.md R19). -/
  pcBackup : Word
  /-- int_disabled: while it is set no interrupt is taken (10_state.md R20). -/
  intDisabled : Bool
  /-- int_id, the line taken plus one (10_state.md R21). -/
  intId : BitVec 4
  /-- f0..f7 (10_state.md R23, R24). -/
  fpr : Vector FWord 8
  /-- The bytes of SDRAM that hold a value (20_memory.md R31, R37, R41). An unlisted byte has none: reading it is the spec's
  `refuse(read of unwritten memory)` (log entry 3). -/
  mem : Memory
  /-- The bytes of the launch parameter `ROM_IMAGE` that are given, at their addresses (20_memory.md R42). An unlisted byte of the ROM is
  that of `Config.romImage`, a free value (log entry 4). No step changes it. -/
  rom : Memory
  /-- The interrupt requests outstanding, bit k for line k (10_state.md R22, 60_exceptions.md R203). -/
  pending : BitVec 8
  /-- THE MODEL'S OWN: what is given of `IRQ_ENV`, the environment that raises the interrupt lines (60_exceptions.md R203). Log entry 5. -/
  irqEnv : InterruptEnv
  /-- THE MODEL'S OWN: how many times the free environment has been asked, the argument of `Config.irqEnv` (60_exceptions.md R203). Log
  entry 5. -/
  irqDraws : Nat
  /-- The WRITEs to SDRAM executed since the latest CCACHE or reset, newest first: all that the spec lets a program see of the
  L1I and L1D contents (10_state.md R25, 20_memory.md R52, R53). -/
  storesSinceCcache : List StoreRecord
  /-- THE MODEL'S OWN: the accesses presented to the devices so far, newest first (20_memory.md R43, R49). Log entry 6. -/
  deviceLog : List DeviceAccess
  /-- THE MODEL'S OWN: how many racing fetches there have been, the argument of `Config.fetchChoice` (20_memory.md R52). Log entry 7. -/
  raceCount : Nat
  deriving DecidableEq, Repr

/-- The stops of an access that the address space itself makes impossible. The hardware raises no exception (60_exceptions.md R200):
each is one of the spec's `refuse` (00_scope.md R7), and SAFE, since nothing can be proved of a run beyond it. -/
inductive Fault where
  /-- An access at an address in no region; raised by every READ and WRITE (20_memory.md R45, decision D21). Safe. -/
  | unmappedAddress
  /-- A read or fetch of a byte that nothing has written and no launch value gives; raised by READs of SDRAM and by the fetch
  from SDRAM (20_memory.md R37, 10_state.md R27). Safe. -/
  | unwrittenMemory
  deriving DecidableEq, Repr

/-- The situations to which the spec gives no meaning (00_scope.md R7). Each is SAFE. -/
inductive Refusal where
  /-- An arm of `exec` whose instruction has no meaning yet. Raised by no arm of this model. Safe. -/
  | notModelled (mnemonic : String)
  /-- The fetched word spells no instruction, and why; raised by `step` (30_encoding.md R81, decision D6). Safe. -/
  | reservedEncoding (why : DecodeError)
  /-- `pc[1:0]` is not 00 at a fetch; raised by `step` (10_state.md R15, decision D4). Safe. -/
  | misalignedPc
  /-- A fetch outside SDRAM and ROM; raised by `step` (20_memory.md R33, decision D30). Safe. -/
  | fetchOutsideInstructionMemory
  /-- Any WRITE to ROM; raised by WRITE, WRITEB, WRITEH (20_memory.md R42, decision D21). Safe. -/
  | writeToRom
  /-- A byte or halfword access to I/O or VRAM, or such a read of ROM; raised by READB, READBU, READH, READHU, WRITEB, WRITEH
  (20_memory.md R42, R43, decision D22). Safe. -/
  | subWordOutsideSdram
  /-- A byte or halfword access to PC_backup or SP; raised by the same six (10_state.md R18, R19, 20_memory.md R44, decision D20). Safe. -/
  | subWordInternalIo
  deriving DecidableEq, Repr

/-- The answer of an operation that can stop. -/
abbrev Res (α : Type) := Host.Outcome α Fault Refusal

/-- The start address, the first word of the boot ROM (70_reset_and_hazards.md R230). -/
def startAddress : Word := 0x1E000000#32

/-- The machine right after reset (10_state.md R27). `pc`, `int_disabled`, the pending lines and the caches are the spec's values; the
registers the spec leaves unspecified hold the values log entries 1 and 2 name (DESIGN CHOICE, unsafe); SDRAM holds no value (entry 3);
every byte of the ROM is that of `Config.romImage` and what the environment raises is that of `Config.irqEnv`, both free (entries 4, 5);
the model's own fields start empty (entries 5, 6, 7). -/
def State.reset : State where
  gpr := Vector.replicate 15 0#32
  pc := startAddress
  stack := Vector.replicate 256 0#32
  sp := 0#8
  pcBackup := 0#32
  intDisabled := false
  intId := 1#4
  fpr := Vector.replicate 8 0#64
  mem := []
  rom := []
  pending := 0#8
  irqEnv := .free
  irqDraws := 0
  storesSinceCcache := []
  deviceLog := []
  raceCount := 0

/-! ## One update per field (Laws/State.lean says what each leaves) -/

def State.setGpr (s : State) (v : Vector Word 15) : State := { s with gpr := v }
def State.setPc (s : State) (v : Word) : State := { s with pc := v }
def State.setStack (s : State) (v : Vector Word 256) : State := { s with stack := v }
def State.setSp (s : State) (v : BitVec 8) : State := { s with sp := v }
def State.setPcBackup (s : State) (v : Word) : State := { s with pcBackup := v }
def State.setIntDisabled (s : State) (v : Bool) : State := { s with intDisabled := v }
def State.setIntId (s : State) (v : BitVec 4) : State := { s with intId := v }
def State.setFpr (s : State) (v : Vector FWord 8) : State := { s with fpr := v }
def State.setMem (s : State) (v : Memory) : State := { s with mem := v }
def State.setRom (s : State) (v : Memory) : State := { s with rom := v }
def State.setPending (s : State) (v : BitVec 8) : State := { s with pending := v }
def State.setIrqEnv (s : State) (v : InterruptEnv) : State := { s with irqEnv := v }
def State.setIrqDraws (s : State) (v : Nat) : State := { s with irqDraws := v }
def State.setStoresSinceCcache (s : State) (v : List StoreRecord) : State := { s with storesSinceCcache := v }
def State.setDeviceLog (s : State) (v : List DeviceAccess) : State := { s with deviceLog := v }
def State.setRaceCount (s : State) (v : Nat) : State := { s with raceCount := v }

end Sys2Proof.Machine
end

