-- ==== Sys2Proof/Machine/Ops.lean ====
section
/-! DEFINITION. The named operations over State: registers, hardware stack, memory (20_memory.md), devices, the instruction fetch, and
interrupt entry and return (60_exceptions.md). -/

namespace Sys2Proof.Machine

/-- Sequencing: go on with the answer, or stop as it stopped. -/
def andThen {α β : Type} (r : Res α) (f : α → Res β) : Res β :=
  match r with
  | .next a => f a
  | .fault e => .fault e
  | .refused e => .refused e

/-! ## Registers -/

/-- `x[r]`; r0 reads 0 always (10_state.md R11). -/
def readReg (s : State) (r : Reg) : Word :=
  if r = 0#4 then 0#32 else s.gpr[r.toNat - 1]'(by have := r.isLt; omega)

/-- `x[r] <- v`; no effect for r0 (10_state.md R11). -/
def writeReg (s : State) (r : Reg) (v : Word) : State :=
  if r = 0#4 then s else s.setGpr (s.gpr.set (r.toNat - 1) v (by have := r.isLt; omega))

/-- `f[i]`, of which a register field gives the low three bits (10_state.md R23, 30_encoding.md R79). -/
def readF (s : State) (f : FReg) : FWord := s.fpr[f.toNat % 8]'(Nat.mod_lt _ (by decide))

/-- `f[i] <- v` (10_state.md R23). -/
def writeF (s : State) (f : FReg) (v : FWord) : State :=
  s.setFpr (s.fpr.set (f.toNat % 8) v (Nat.mod_lt _ (by decide)))

/-- `pc <- (pc + 4) mod 2^32` (10_state.md R14, R15). -/
def advance (s : State) : State := s.setPc (s.pc + 4#32)

/-! ## The hardware stack (10_state.md R16, R17) -/

/-- `STACK[i]`. -/
def stackAt (s : State) (i : BitVec 8) : Word := s.stack[i.toNat]'i.isLt

/-- `STACK[SP] <- v; SP <- (SP + 1) mod 256` (41_memory_access.md R129). -/
def pushStack (s : State) (v : Word) : State :=
  (s.setStack (s.stack.set s.sp.toNat v s.sp.isLt)).setSp (s.sp + 1#8)

/-- `SP <- (SP - 1) mod 256`, and the entry the decremented SP names (41_memory_access.md R130, decision D31). -/
def popStack (s : State) : Word × State := (stackAt s (s.sp - 1#8), s.setSp (s.sp - 1#8))

/-! ## Memory bytes -/

/-- The byte listed at `a`, none where nothing gives it a value (20_memory.md R37). -/
def Memory.read : Memory → Nat → Option Byte
  | [], _ => none
  | (k, b) :: m, a => if a = k then some b else Memory.read m a

/-- The memory after the byte at `a` takes the value `b`; keeps the addresses rising. -/
def Memory.write : Memory → Nat → Byte → Memory
  | [], a, b => [(a, b)]
  | (k, c) :: m, a, b =>
    if a < k then (a, b) :: (k, c) :: m
    else if a = k then (a, b) :: m
    else (k, c) :: Memory.write m a b

/-- The bytes from `a` upward take the values listed (20_memory.md R38). -/
def Memory.writeBytes : Memory → Nat → List Byte → Memory
  | m, _, [] => m
  | m, a, b :: bs => Memory.writeBytes (Memory.write m a b) (a + 1) bs

/-- The halfword at `a`, where both its bytes have a value (20_memory.md R34, R37). -/
def loadHalf (m : Memory) (a : Nat) : Option (BitVec 16) :=
  match Memory.read m a, Memory.read m (a + 1) with
  | some b0, some b1 => some (halfOfBytes b0 b1)
  | _, _ => none

/-- The word at `a`, where its four bytes have a value (20_memory.md R34, R37). -/
def loadWord (m : Memory) (a : Nat) : Option Word :=
  match Memory.read m a, Memory.read m (a + 1), Memory.read m (a + 2), Memory.read m (a + 3) with
  | some b0, some b1, some b2, some b3 => some (wordOfBytes b0 b1 b2 b3)
  | _, _, _, _ => none

/-! ## The address map -/

/-- The rows of the address map (20_memory.md R31), and the addresses of no row (R45). -/
inductive Region where
  | sdram
  | io
  | rom
  | vram32
  | vram8
  | vramPixel
  | internal
  | unmapped
  deriving DecidableEq, Repr

/-- The region of a byte address; all 32 bits take part (20_memory.md R31, R45, R46). -/
def regionOf (a : Nat) : Region :=
  if a ≤ 0x03FFFFFF then .sdram
  else if 0x1C000000 ≤ a ∧ a ≤ 0x1C00006F then .io
  else if 0x1E000000 ≤ a ∧ a ≤ 0x1E000FFF then .rom
  else if 0x1E400000 ≤ a ∧ a ≤ 0x1E40107F then .vram32
  else if 0x1E800000 ≤ a ∧ a ≤ 0x1E808007 then .vram8
  else if 0x1EC00000 ≤ a ∧ a ≤ 0x1EC4AFFF then .vramPixel
  else if 0x1F000000 ≤ a ∧ a ≤ 0x1F000007 then .internal
  else .unmapped

/-- Alignment forcing: `ea AND NOT (n - 1)`, for `n` a power of two (20_memory.md R35). -/
def alignDown (ea : Word) (n : Nat) : Nat := ea.toNat / n * n

/-! ## The boot ROM, and one byte of memory -/

/-- The byte of `ROM_IMAGE` at an address of the ROM: the one given at launch, otherwise a free one (20_memory.md R37, R42; log entry 4). -/
def romByte (s : State) (a : Nat) : Byte := (Memory.read s.rom a).getD (Config.romImage (BitVec.ofNat 12 a))

/-- The word of `ROM_IMAGE` at an address of the ROM (20_memory.md R34, R42). -/
def romWord (s : State) (a : Nat) : Word :=
  wordOfBytes (romByte s a) (romByte s (a + 1)) (romByte s (a + 2)) (romByte s (a + 3))

/-- The byte at an address of memory, as a program could read it: every byte of the ROM has a value, a byte of SDRAM one that was given or
stored (20_memory.md R37). -/
def readByte (s : State) (a : Nat) : Option Byte :=
  if regionOf a = .rom then some (romByte s a) else Memory.read s.mem a

/-! ## Device and CPU-internal accesses -/

/-- A word read presented to a device: its answer is free, and the access is recorded (20_memory.md R43, R49, R55; log entry 6). -/
def deviceLoad (s : State) (a : Nat) : Word × State :=
  (Config.deviceRead s.deviceLog a, s.setDeviceLog (.read a :: s.deviceLog))

/-- A word write presented to a device (20_memory.md R43, R49, R55; log entry 6). -/
def deviceStore (s : State) (a : Nat) (v : Word) : State := s.setDeviceLog (.write a v :: s.deviceLog)

/-- The address of PC_backup; the other word of the CPU internal I/O region is SP (20_memory.md R44). -/
def pcBackupAddress : Nat := 0x1F000000

/-- A word read of CPU internal I/O at an aligned address (20_memory.md R44, 10_state.md R18, R19). -/
def internalLoad (s : State) (a : Nat) : Word :=
  if a = pcBackupAddress then s.pcBackup else s.sp.setWidth 32

/-- A word write to CPU internal I/O at an aligned address; SP takes the low eight bits (20_memory.md R44, 10_state.md R18, R19). -/
def internalStore (s : State) (a : Nat) (v : Word) : State :=
  if a = pcBackupAddress then s.setPcBackup v else s.setSp (v.extractLsb' 0 8)

/-! ## MemRead -/

/-- `MemRead(ea, 4)` (20_memory.md R37): the value, and the state after the access (a device read is recorded). -/
def memReadWord (s : State) (ea : Word) : Res (Word × State) :=
  match regionOf (alignDown ea 4) with
  | .sdram =>
    match loadWord s.mem (alignDown ea 4) with
    | some v => .next (v, s)
    | none => .fault .unwrittenMemory
  | .rom => .next (romWord s (alignDown ea 4), s)
  | .io | .vram32 | .vram8 | .vramPixel => .next (deviceLoad s (alignDown ea 4))
  | .internal => .next (internalLoad s (alignDown ea 4), s)
  | .unmapped => .fault .unmappedAddress

/-- A sub-word read at an aligned address, whose value in SDRAM is `v`: defined for SDRAM only (20_memory.md R37, R42 to R45,
decision D22). -/
def subWordLoad {α : Type} (a : Nat) (v : Option α) : Res α :=
  match regionOf a with
  | .sdram =>
    match v with
    | some x => .next x
    | none => .fault .unwrittenMemory
  | .rom | .io | .vram32 | .vram8 | .vramPixel => .refused .subWordOutsideSdram
  | .internal => .refused .subWordInternalIo
  | .unmapped => .fault .unmappedAddress

/-- `MemRead(ea, 2)` (20_memory.md R37). -/
def memReadHalf (s : State) (ea : Word) : Res (BitVec 16) :=
  subWordLoad (alignDown ea 2) (loadHalf s.mem (alignDown ea 2))

/-- `MemRead(ea, 1)` (20_memory.md R37). -/
def memReadByte (s : State) (ea : Word) : Res Byte :=
  subWordLoad (alignDown ea 1) (Memory.read s.mem (alignDown ea 1))

/-! ## MemWrite -/

/-- A store to SDRAM: the bytes change (20_memory.md R38) and the value the word had is kept for the fetch rule (R52). -/
def storeSdram (s : State) (a : Nat) (bs : List Byte) : State :=
  (s.setStoresSinceCcache (⟨a / 4 * 4, loadWord s.mem (a / 4 * 4)⟩ :: s.storesSinceCcache)).setMem
    (Memory.writeBytes s.mem a bs)

/-- `MemWrite(ea, 4, v)` (20_memory.md R38). -/
def memWriteWord (s : State) (ea : Word) (v : Word) : Res State :=
  match regionOf (alignDown ea 4) with
  | .sdram => .next (storeSdram s (alignDown ea 4) (bytesOfWord v))
  | .rom => .refused .writeToRom
  | .io | .vram32 | .vram8 | .vramPixel => .next (deviceStore s (alignDown ea 4) v)
  | .internal => .next (internalStore s (alignDown ea 4) v)
  | .unmapped => .fault .unmappedAddress

/-- A sub-word write at an aligned address: defined for SDRAM only (20_memory.md R38, R42 to R45, decision D22). -/
def subWordStore (s : State) (a : Nat) (bs : List Byte) : Res State :=
  match regionOf a with
  | .sdram => .next (storeSdram s a bs)
  | .rom => .refused .writeToRom
  | .io | .vram32 | .vram8 | .vramPixel => .refused .subWordOutsideSdram
  | .internal => .refused .subWordInternalIo
  | .unmapped => .fault .unmappedAddress

/-- `MemWrite(ea, 2, v)` (20_memory.md R38). -/
def memWriteHalf (s : State) (ea : Word) (v : BitVec 16) : Res State :=
  subWordStore s (alignDown ea 2) (bytesOfHalf v)

/-- `MemWrite(ea, 1, v)` (20_memory.md R38). -/
def memWriteByte (s : State) (ea : Word) (v : Byte) : Res State := subWordStore s (alignDown ea 1) [v]

/-! ## Caches and the instruction fetch -/

/-- CCACHE's promise: no word is any longer written since the latest CCACHE, and no byte changes (20_memory.md R53, 44_misc.md R181). -/
def clearCaches (s : State) : State := s.setStoresSinceCcache []

/-- The values the SDRAM word at `a` had before each store to it since the latest CCACHE, newest first (20_memory.md R52). -/
def formerValues (s : State) (a : Nat) : List (Option Word) :=
  (s.storesSinceCcache.filter (fun r => r.addr == a)).map StoreRecord.before

/-- The answer of a fetch that sees `v`. -/
def fetched (s : State) (v : Option Word) : Res (Word × State) :=
  match v with
  | some w => .next (w, s)
  | none => .fault .unwrittenMemory

/-- A fetch from SDRAM at `a`: the word's value if no store has touched it since the latest CCACHE; otherwise any value it has held
since then, a free choice (20_memory.md R52, decision D23; log entry 7). -/
def fetchSdram (s : State) (a : Nat) : Res (Word × State) :=
  match formerValues s a with
  | [] => fetched s (loadWord s.mem a)
  | v :: vs =>
    fetched (s.setRaceCount (s.raceCount + 1))
      ((loadWord s.mem a :: v :: vs).getD (Config.fetchChoice s.raceCount % (vs.length + 2)) none)

/-- The fetch at `pc`: aligned, from SDRAM through L1I or from ROM (10_state.md R15, 20_memory.md R33, R36, R47, R52). -/
def fetchWord (s : State) : Res (Word × State) :=
  if s.pc.toNat % 4 ≠ 0 then .refused .misalignedPc
  else
    match regionOf s.pc.toNat with
    | .sdram => fetchSdram s s.pc.toNat
    | .rom => .next (romWord s s.pc.toNat, s)
    | .io | .vram32 | .vram8 | .vramPixel | .internal | .unmapped => .refused .fetchOutsideInstructionMemory

/-- The bytes of a word placed from outside at `pc`: in the ROM, those bytes of `ROM_IMAGE` (20_memory.md R42); elsewhere a launch value
(R37), the fetch of it coherent. Log entry 4. -/
def placeAtPc (s : State) (w : Word) : State :=
  if regionOf s.pc.toNat = .rom then s.setRom (Memory.writeBytes s.rom s.pc.toNat (bytesOfWord w))
  else
    (s.setMem (Memory.writeBytes s.mem s.pc.toNat (bytesOfWord w))).setStoresSinceCcache
      (s.storesSinceCcache.filter (fun r => r.addr != s.pc.toNat))

/-! ## Interrupts (60_exceptions.md) -/

/-- The lines that have a source on the FPGC platform, 0 to 5 (60_exceptions.md R202, R203 (c)). -/
def sourcedLines : BitVec 8 := 0x3F#8

/-- The requests the environment raises at an enabled interrupt point: any of the lines that have a source where it is free, otherwise those
of its schedule (60_exceptions.md R203; log entry 5). -/
def raisedNow (s : State) : BitVec 8 :=
  match s.irqEnv with
  | .free => Config.irqEnv s.irqDraws &&& sourcedLines
  | .schedule l => l.headD 0#8

/-- The environment after an enabled interrupt point (60_exceptions.md R203). -/
def InterruptEnv.next : InterruptEnv → InterruptEnv
  | .free => .free
  | .schedule l => .schedule l.tail

/-- How often an enabled interrupt point asks the free environment: once, or not at all where a schedule is given. -/
def InterruptEnv.draws : InterruptEnv → Nat
  | .free => 1
  | .schedule _ => 0

/-- The requests outstanding at an interrupt point: those waiting and those the environment raises now (60_exceptions.md R203). -/
def offered (s : State) : BitVec 8 := s.pending ||| raisedNow s

/-- The line taken: the lowest set bit, lower index first (60_exceptions.md R205). -/
def firstLine (p : BitVec 8) : Option (Fin 8) :=
  ([0, 1, 2, 3, 4, 5, 6, 7] : List (Fin 8)).find? (fun k => p.getLsbD k.val)

/-- The one handler address (60_exceptions.md R207). -/
def handlerAddress : Word := 0x00000004#32

/-- `InterruptEntry(k, t)`, taking the machine's only kind of exception: PC_backup takes the resume address, interrupts are disabled,
int_id names the line, the handler is entered, and the request taken is cleared (60_exceptions.md R207, decision D16). -/
def interruptEntry (s : State) (k : Fin 8) (t : Word) : State :=
  ((((s.setPcBackup t).setIntDisabled true).setIntId (BitVec.ofNat 4 (k.val + 1))).setPc handlerAddress).setPending
    (s.pending &&& ~~~(1#8 <<< k.val))

/-- The return from an interrupt: `pc <- PC_backup; int_disabled <- 0` (60_exceptions.md R209, 40_control_flow.md R118). -/
def returnFromInterrupt (s : State) : State := (s.setPc s.pcBackup).setIntDisabled false

/-- What the environment does at an enabled interrupt point: it raises the next requests (60_exceptions.md R203; log entry 5). -/
def raiseRequests (s : State) : State :=
  ((s.setPending (offered s)).setIrqEnv s.irqEnv.next).setIrqDraws (s.irqDraws + s.irqEnv.draws)

/-- `TakeJump(t)`: the tail of every taken jump or branch, the one place where an interrupt is taken (60_exceptions.md R206). -/
def takeJump (s : State) (t : Word) : State :=
  if s.intDisabled then s.setPc t
  else
    match firstLine (offered s) with
    | none => (raiseRequests s).setPc t
    | some k => interruptEntry (raiseRequests s) k t

end Sys2Proof.Machine
end

