-- ==== Sys2Proof/Machine/Operands.lean ====
section
/-! DEFINITION. The operand forms: extensions (30_encoding.md R72, 20_memory.md R39), ALU operands (R73), the data address
(41_memory_access.md R120) and the jump targets (40_control_flow.md R100 to R106). -/

namespace Sys2Proof.Machine

/-! ## Extensions (00_scope.md R6) -/

/-- `sext_16`. -/
def sext16 (v : BitVec 16) : Word := v.signExtend 32

/-- `zext_16`. -/
def zext16 (v : BitVec 16) : Word := v.setWidth 32

/-- `sext_8`. -/
def sext8 (v : Byte) : Word := v.signExtend 32

/-- `zext_8`. -/
def zext8 (v : Byte) : Word := v.setWidth 32

/-- `zext_27`. -/
def zext27 (v : Const27) : Word := v.setWidth 32

/-- `zext_4`. -/
def zext4 (v : BitVec 4) : Word := v.setWidth 32

/-! ## Data address -/

/-- `ea = (x[A] + sext_16(const16)) mod 2^32`, counting bytes (41_memory_access.md R120). -/
def effAddr (s : State) (a : Reg) (c : Const16) : Word := readReg s a + sext16 c

/-! ## Code addresses -/

/-- `JUMP_UNIT` (00_scope.md R4, decision D2): jump and branch constants count bytes. Log entry 10. -/
def jumpUnit : Word := 1#32

/-- A `const16` as a code offset (30_encoding.md R72). -/
def codeOffset16 (c : Const16) : Word := jumpUnit * sext16 c

/-- A `const27` as a code address or offset (30_encoding.md R72). -/
def codeOffset27 (c : Const27) : Word := jumpUnit * zext27 c

/-- JUMP's target (40_control_flow.md R102). -/
def jumpTarget (c : Const27) : Word := codeOffset27 c

/-- JUMPO's target, relative to the jump's own address (40_control_flow.md R103). -/
def jumpoTarget (s : State) (c : Const27) : Word := s.pc + codeOffset27 c

/-- JUMPR's target (40_control_flow.md R104). -/
def jumprTarget (s : State) (b : Reg) (c : Const16) : Word := readReg s b + codeOffset16 c

/-- JUMPRO's target (40_control_flow.md R105). -/
def jumproTarget (s : State) (b : Reg) (c : Const16) : Word := s.pc + readReg s b + codeOffset16 c

/-- A branch's target, relative to the branch's own address (40_control_flow.md R106). -/
def branchTarget (s : State) (c : Const16) : Word := s.pc + codeOffset16 c

/-! ## ALU forms (30_encoding.md R73) -/

/-- Register form: `x[D] <- f(x[A], x[B]); pc <- pc + 4` (42_arith_single.md R140, 43_arith_multi.md R160). Both sources are read before
the destination is written. -/
def aluReg (f : Word → Word → Word) (d a b : Reg) (s : State) : Res State :=
  .next (advance (writeReg s d (f (readReg s a) (readReg s b))))

/-- Constant form: `x[D] <- f(x[A], sext_16(const16)); pc <- pc + 4` (42_arith_single.md R140, 43_arith_multi.md R160). -/
def aluConst (f : Word → Word → Word) (d a : Reg) (c : Const16) (s : State) : Res State :=
  .next (advance (writeReg s d (f (readReg s a) (sext16 c))))

/-! ## FP64 forms (45_fp64.md R185) -/

/-- Three FP64 registers: `f[fd] <- g(f[fa], f[fb]); pc <- pc + 4`; no general register is written. -/
def fpuReg (g : FWord → FWord → FWord) (fd fa fb : FReg) (s : State) : Res State :=
  .next (advance (writeF s fd (g (readF s fa) (readF s fb))))

end Sys2Proof.Machine
end

