-- ==== Sys2Proof/Machine/Alu.lean ====
section
/-! DEFINITION. The functions of the ALUs: single-cycle (42_arith_single.md), multi-cycle (43_arith_multi.md) and FP64 (45_fp64.md).
Each is one total function of its operands, the same in the register and the constant form (30_encoding.md R73). -/

namespace Sys2Proof.Machine

/-! ## Single-cycle -/

/-- R141 -/
def aluOr (x y : Word) : Word := x ||| y

/-- R142 -/
def aluAnd (x y : Word) : Word := x &&& y

/-- R143 -/
def aluXor (x y : Word) : Word := x ^^^ y

/-- R144: `(A + B) mod 2^32` -/
def aluAdd (x y : Word) : Word := x + y

/-- R145: `(A - B) mod 2^32` -/
def aluSub (x y : Word) : Word := x - y

/-- The shift amount is the whole of B (decision D7; log entry 11): the one place that says so (R146). -/
def shiftAmount (y : Word) : Nat := y.toNat

/-- R146: zeros enter at bit 0; an amount of 32 or more gives 0 -/
def aluShiftl (x y : Word) : Word := if shiftAmount y < 32 then x <<< shiftAmount y else 0#32

/-- R147: zeros enter at bit 31; an amount of 32 or more gives 0 -/
def aluShiftr (x y : Word) : Word := if shiftAmount y < 32 then x >>> shiftAmount y else 0#32

/-- R148: the complement of A; B is ignored -/
def aluNot (x _ : Word) : Word := ~~~x

/-- R149 -/
def aluSlt (x y : Word) : Word := if x.toInt < y.toInt then 1#32 else 0#32

/-- R150 -/
def aluSltu (x y : Word) : Word := if x.toNat < y.toNat then 1#32 else 0#32

/-- R151: B; A is ignored -/
def aluLoad (_ y : Word) : Word := y

/-- R152: `{B[15:0], A[15:0]}` (decision D14; log entry 20) -/
def aluLoadhi (x y : Word) : Word := y.extractLsb' 0 16 ++ x.extractLsb' 0 16

/-- R153: copies of bit 31 enter at the top; an amount of 32 or more gives 32 of them -/
def aluShiftrs (x y : Word) : Word :=
  if shiftAmount y < 32 then x.sshiftRight (shiftAmount y) else if x.msb then 0xFFFFFFFF#32 else 0#32

/-! ## Multi-cycle -/

/-- R161: the low half of the signed product -/
def aluMults (x y : Word) : Word := BitVec.ofInt 32 (x.toInt * y.toInt)

/-- R162: the low half of the unsigned product -/
def aluMultu (x y : Word) : Word := BitVec.ofNat 32 (x.toNat * y.toNat)

/-- R163: `floor(P / 2^16) mod 2^32` of the signed product (decision D10; log entry 13) -/
def aluMultfp (x y : Word) : Word := BitVec.ofInt 32 (x.toInt * y.toInt / 2 ^ 16)

/-- The quotient rounded toward zero (decision D8; log entry 12): the one place that says so (R164). -/
def truncDiv (n m : Int) : Int := Int.tdiv n m

/-- R164, R171 -/
def aluDivs (x y : Word) : Word :=
  if y = 0#32 then Config.div0 .divs x
  else if x = 0x80000000#32 ∧ y = 0xFFFFFFFF#32 then Config.divOvf .divs x y
  else BitVec.ofInt 32 (truncDiv x.toInt y.toInt)

/-- R165, R171 -/
def aluDivu (x y : Word) : Word :=
  if y = 0#32 then Config.div0 .divu x else BitVec.ofNat 32 (x.toNat / y.toNat)

/-- The Q16.16 quotient of R166, exact on integers. -/
def quotFp (x y : Word) : Int := truncDiv (x.toInt * 2 ^ 16) y.toInt

/-- R166, R171 (decision D10; log entry 13) -/
def aluDivfp (x y : Word) : Word :=
  if y = 0#32 then Config.div0 .divfp x
  else if -(2 ^ 31) ≤ quotFp x y ∧ quotFp x y ≤ 2 ^ 31 - 1 then BitVec.ofInt 32 (quotFp x y)
  else Config.divOvf .divfp x y

/-- R167, R171: the remainder of the truncating division -/
def aluMods (x y : Word) : Word :=
  if y = 0#32 then Config.div0 .mods x
  else if x = 0x80000000#32 ∧ y = 0xFFFFFFFF#32 then Config.divOvf .mods x y
  else BitVec.ofInt 32 (x.toInt - y.toInt * truncDiv x.toInt y.toInt)

/-- R168, R171 -/
def aluModu (x y : Word) : Word :=
  if y = 0#32 then Config.div0 .modu x else BitVec.ofNat 32 (x.toNat % y.toNat)

/-- R169: `floor(P / 2^32) mod 2^32` of the signed product -/
def aluMulshi (x y : Word) : Word := BitVec.ofInt 32 (x.toInt * y.toInt / 2 ^ 32)

/-- R170: bits 63:32 of the unsigned product -/
def aluMultuhi (x y : Word) : Word := BitVec.ofNat 32 (x.toNat * y.toNat / 2 ^ 32)

/-! ## FP64 -/

/-- R186: `floor(P / 2^32) mod 2^64` of the signed product (decision D11; log entry 14) -/
def fpMul (x y : FWord) : FWord := BitVec.ofInt 64 (x.toInt * y.toInt / 2 ^ 32)

/-- R187: `(f[fa] + f[fb]) mod 2^64` -/
def fpAdd (x y : FWord) : FWord := x + y

/-- R188: `(f[fa] - f[fb]) mod 2^64` -/
def fpSub (x y : FWord) : FWord := x - y

end Sys2Proof.Machine
end

