-- ==== Sys2Proof/Machine/ArithMulti.lean ====
section
/-! DEFINITION. The integer operations of ARITHM and ARITHMC (43_arith_multi.md R160 to R171). "Multi-cycle" is timing only (R160). -/

namespace Sys2Proof.Machine

/-- MULTS, register form (R161). -/
def execMults (d a b : Reg) (s : State) : Res State := aluReg aluMults d a b s

/-- MULTS, constant form (R161). -/
def execMultsC (d a : Reg) (c : Const16) (s : State) : Res State := aluConst aluMults d a c s

/-- MULTU, register form (R162). -/
def execMultu (d a b : Reg) (s : State) : Res State := aluReg aluMultu d a b s

/-- MULTU, constant form (R162). -/
def execMultuC (d a : Reg) (c : Const16) (s : State) : Res State := aluConst aluMultu d a c s

/-- MULTFP, register form (R163). -/
def execMultfp (d a b : Reg) (s : State) : Res State := aluReg aluMultfp d a b s

/-- MULTFP, constant form (R163). -/
def execMultfpC (d a : Reg) (c : Const16) (s : State) : Res State := aluConst aluMultfp d a c s

/-- DIVS, register form (R164). -/
def execDivs (d a b : Reg) (s : State) : Res State := aluReg aluDivs d a b s

/-- DIVS, constant form (R164). -/
def execDivsC (d a : Reg) (c : Const16) (s : State) : Res State := aluConst aluDivs d a c s

/-- DIVU, register form (R165). -/
def execDivu (d a b : Reg) (s : State) : Res State := aluReg aluDivu d a b s

/-- DIVU, constant form (R165). -/
def execDivuC (d a : Reg) (c : Const16) (s : State) : Res State := aluConst aluDivu d a c s

/-- DIVFP, register form (R166). -/
def execDivfp (d a b : Reg) (s : State) : Res State := aluReg aluDivfp d a b s

/-- DIVFP, constant form (R166). -/
def execDivfpC (d a : Reg) (c : Const16) (s : State) : Res State := aluConst aluDivfp d a c s

/-- MODS, register form (R167). -/
def execMods (d a b : Reg) (s : State) : Res State := aluReg aluMods d a b s

/-- MODS, constant form (R167). -/
def execModsC (d a : Reg) (c : Const16) (s : State) : Res State := aluConst aluMods d a c s

/-- MODU, register form (R168). -/
def execModu (d a b : Reg) (s : State) : Res State := aluReg aluModu d a b s

/-- MODU, constant form (R168). -/
def execModuC (d a : Reg) (c : Const16) (s : State) : Res State := aluConst aluModu d a c s

/-- MULSHI, register form (R169). -/
def execMulshi (d a b : Reg) (s : State) : Res State := aluReg aluMulshi d a b s

/-- MULSHI, constant form (R169). -/
def execMulshiC (d a : Reg) (c : Const16) (s : State) : Res State := aluConst aluMulshi d a c s

/-- MULTUHI, register form (R170). -/
def execMultuhi (d a b : Reg) (s : State) : Res State := aluReg aluMultuhi d a b s

/-- MULTUHI, constant form (R170). -/
def execMultuhiC (d a : Reg) (c : Const16) (s : State) : Res State := aluConst aluMultuhi d a c s


end Sys2Proof.Machine
end

