-- ==== Sys2Proof/Machine/ArithSingle.lean ====
section
/-! DEFINITION. ARITH and ARITHC, the single-cycle arithmetic and logic (42_arith_single.md R140 to R153). -/

namespace Sys2Proof.Machine

/-- OR, register form (R141). -/
def execOr (d a b : Reg) (s : State) : Res State := aluReg aluOr d a b s

/-- OR, constant form (R141). -/
def execOrC (d a : Reg) (c : Const16) (s : State) : Res State := aluConst aluOr d a c s

/-- AND, register form (R142). -/
def execAnd (d a b : Reg) (s : State) : Res State := aluReg aluAnd d a b s

/-- AND, constant form (R142). -/
def execAndC (d a : Reg) (c : Const16) (s : State) : Res State := aluConst aluAnd d a c s

/-- XOR, register form (R143). -/
def execXor (d a b : Reg) (s : State) : Res State := aluReg aluXor d a b s

/-- XOR, constant form (R143). -/
def execXorC (d a : Reg) (c : Const16) (s : State) : Res State := aluConst aluXor d a c s

/-- ADD, register form (R144). -/
def execAdd (d a b : Reg) (s : State) : Res State := aluReg aluAdd d a b s

/-- ADD, constant form (R144). -/
def execAddC (d a : Reg) (c : Const16) (s : State) : Res State := aluConst aluAdd d a c s

/-- SUB, register form (R145). -/
def execSub (d a b : Reg) (s : State) : Res State := aluReg aluSub d a b s

/-- SUB, constant form (R145). -/
def execSubC (d a : Reg) (c : Const16) (s : State) : Res State := aluConst aluSub d a c s

/-- SHIFTL, register form (R146). -/
def execShiftl (d a b : Reg) (s : State) : Res State := aluReg aluShiftl d a b s

/-- SHIFTL, constant form (R146). -/
def execShiftlC (d a : Reg) (c : Const16) (s : State) : Res State := aluConst aluShiftl d a c s

/-- SHIFTR, register form (R147). -/
def execShiftr (d a b : Reg) (s : State) : Res State := aluReg aluShiftr d a b s

/-- SHIFTR, constant form (R147). -/
def execShiftrC (d a : Reg) (c : Const16) (s : State) : Res State := aluConst aluShiftr d a c s

/-- NOT, register form (R148). -/
def execNot (d a b : Reg) (s : State) : Res State := aluReg aluNot d a b s

/-- NOT, constant form (R148). -/
def execNotC (d a : Reg) (c : Const16) (s : State) : Res State := aluConst aluNot d a c s

/-- SLT, register form (R149). -/
def execSlt (d a b : Reg) (s : State) : Res State := aluReg aluSlt d a b s

/-- SLT, constant form (R149). -/
def execSltC (d a : Reg) (c : Const16) (s : State) : Res State := aluConst aluSlt d a c s

/-- SLTU, register form (R150). -/
def execSltu (d a b : Reg) (s : State) : Res State := aluReg aluSltu d a b s

/-- SLTU, constant form (R150). -/
def execSltuC (d a : Reg) (c : Const16) (s : State) : Res State := aluConst aluSltu d a c s

/-- LOAD, register form (R151). -/
def execLoad (d a b : Reg) (s : State) : Res State := aluReg aluLoad d a b s

/-- LOAD, constant form (R151). -/
def execLoadC (d a : Reg) (c : Const16) (s : State) : Res State := aluConst aluLoad d a c s

/-- LOADHI, register form (R152). -/
def execLoadhi (d a b : Reg) (s : State) : Res State := aluReg aluLoadhi d a b s

/-- LOADHI, constant form (R152). -/
def execLoadhiC (d a : Reg) (c : Const16) (s : State) : Res State := aluConst aluLoadhi d a c s

/-- SHIFTRS, register form (R153). -/
def execShiftrs (d a b : Reg) (s : State) : Res State := aluReg aluShiftrs d a b s

/-- SHIFTRS, constant form (R153). -/
def execShiftrsC (d a : Reg) (c : Const16) (s : State) : Res State := aluConst aluShiftrs d a c s


end Sys2Proof.Machine
end

