-- ==== Sys2Proof/Machine/Flags.lean ====
section
/-! DEFINITION. The B32P3 has no flags of any kind (10_state.md R26): no instruction sets or reads one. A BRANCH compares two registers
itself and forgets the outcome; this file holds its conditions (30_encoding.md R76, 40_control_flow.md R106 to R116). -/

namespace Sys2Proof.Machine

/-- BEQ: all 32 bits equal (40_control_flow.md R107). -/
def condEq (x y : Word) : Bool := x == y

/-- BNE (40_control_flow.md R108). -/
def condNe (x y : Word) : Bool := x != y

/-- BGT: `u(A) > u(B)` (40_control_flow.md R109). -/
def condGt (x y : Word) : Bool := decide (x.toNat > y.toNat)

/-- BGE: `u(A) >= u(B)` (40_control_flow.md R110). -/
def condGe (x y : Word) : Bool := decide (x.toNat ≥ y.toNat)

/-- BLT: `u(A) < u(B)` (40_control_flow.md R111). -/
def condLt (x y : Word) : Bool := decide (x.toNat < y.toNat)

/-- BLE: `u(A) <= u(B)` (40_control_flow.md R112). -/
def condLe (x y : Word) : Bool := decide (x.toNat ≤ y.toNat)

/-- BGTS: `s(A) > s(B)` (40_control_flow.md R113). -/
def condGts (x y : Word) : Bool := decide (x.toInt > y.toInt)

/-- BGES: `s(A) >= s(B)` (40_control_flow.md R114). -/
def condGes (x y : Word) : Bool := decide (x.toInt ≥ y.toInt)

/-- BLTS: `s(A) < s(B)` (40_control_flow.md R115). -/
def condLts (x y : Word) : Bool := decide (x.toInt < y.toInt)

/-- BLES: `s(A) <= s(B)` (40_control_flow.md R116). -/
def condLes (x y : Word) : Bool := decide (x.toInt ≤ y.toInt)

/-- `if cond(A, B) then TakeJump((pc + imm) mod 2^32) else pc <- pc + 4` (40_control_flow.md R106). -/
def branchIf (cond : Word → Word → Bool) (a b : Reg) (c : Const16) (s : State) : Res State :=
  if cond (readReg s a) (readReg s b) then .next (takeJump s (branchTarget s c)) else .next (advance s)

end Sys2Proof.Machine
end

