-- ==== Sys2Proof/Machine/ControlFlow.lean ====
section
/-! DEFINITION. HALT, JUMP, JUMPR, BRANCH, SAVPC and RETI (40_control_flow.md R100 to R118). Every taken transfer ends with `takeJump`. -/

namespace Sys2Proof.Machine

/-- HALT: `TakeJump(pc)` (R101). -/
def execHalt (s : State) : Res State := .next (takeJump s s.pc)

/-- JUMP: `TakeJump(zext_27(const27))` (R102). -/
def execJump (c : Const27) (s : State) : Res State := .next (takeJump s (jumpTarget c))

/-- JUMPO: `TakeJump((pc + zext_27(const27)) mod 2^32)` (R103). -/
def execJumpo (c : Const27) (s : State) : Res State := .next (takeJump s (jumpoTarget s c))

/-- JUMPR: `TakeJump((B + imm) mod 2^32)` (R104). -/
def execJumpr (b : Reg) (c : Const16) (s : State) : Res State := .next (takeJump s (jumprTarget s b c))

/-- JUMPRO: `TakeJump((pc + B + imm) mod 2^32)` (R105). -/
def execJumpro (b : Reg) (c : Const16) (s : State) : Res State := .next (takeJump s (jumproTarget s b c))

/-- BEQ (R107). -/
def execBeq (a b : Reg) (c : Const16) (s : State) : Res State := branchIf condEq a b c s

/-- BNE (R108). -/
def execBne (a b : Reg) (c : Const16) (s : State) : Res State := branchIf condNe a b c s

/-- BGT (R109). -/
def execBgt (a b : Reg) (c : Const16) (s : State) : Res State := branchIf condGt a b c s

/-- BGE (R110). -/
def execBge (a b : Reg) (c : Const16) (s : State) : Res State := branchIf condGe a b c s

/-- BLT (R111). -/
def execBlt (a b : Reg) (c : Const16) (s : State) : Res State := branchIf condLt a b c s

/-- BLE (R112). -/
def execBle (a b : Reg) (c : Const16) (s : State) : Res State := branchIf condLe a b c s

/-- BGTS (R113). -/
def execBgts (a b : Reg) (c : Const16) (s : State) : Res State := branchIf condGts a b c s

/-- BGES (R114). -/
def execBges (a b : Reg) (c : Const16) (s : State) : Res State := branchIf condGes a b c s

/-- BLTS (R115). -/
def execBlts (a b : Reg) (c : Const16) (s : State) : Res State := branchIf condLts a b c s

/-- BLES (R116). -/
def execBles (a b : Reg) (c : Const16) (s : State) : Res State := branchIf condLes a b c s

/-- SAVPC: `x[D] <- pc; pc <- pc + 4`, the SAVPC's own address (R117). -/
def execSavpc (d : Reg) (s : State) : Res State := .next (advance (writeReg s d s.pc))

/-- RETI: `pc <- PC_backup; int_disabled <- 0`; not an interrupt point (R118). -/
def execReti (s : State) : Res State := .next (returnFromInterrupt s)

end Sys2Proof.Machine
end

