-- ==== Sys2Proof/Machine/Fp64.lean ====
section
/-! DEFINITION. The FP64 coprocessor (45_fp64.md R185 to R191). -/

namespace Sys2Proof.Machine

/-- FMUL (R186). -/
def execFmul (fd fa fb : FReg) (s : State) : Res State := fpuReg fpMul fd fa fb s

/-- FADD (R187). -/
def execFadd (fd fa fb : FReg) (s : State) : Res State := fpuReg fpAdd fd fa fb s

/-- FSUB (R188). -/
def execFsub (fd fa fb : FReg) (s : State) : Res State := fpuReg fpSub fd fa fb s

/-- FLD: `f[fd] <- {x[A], x[B]}` (R189). -/
def execFld (fd : FReg) (a b : Reg) (s : State) : Res State :=
  .next (advance (writeF s fd (readReg s a ++ readReg s b)))

/-- FSTHI: `x[D] <- f[fa][63:32]` (R190). -/
def execFsthi (d : Reg) (fa : FReg) (s : State) : Res State :=
  .next (advance (writeReg s d ((readF s fa).extractLsb' 32 32)))

/-- FSTLO: `x[D] <- f[fa][31:0]` (R191). -/
def execFstlo (d : Reg) (fa : FReg) (s : State) : Res State :=
  .next (advance (writeReg s d ((readF s fa).extractLsb' 0 32)))

end Sys2Proof.Machine
end

