-- ==== Sys2Proof/Machine/MemoryAccess.lean ====
section
/-! DEFINITION. READ, WRITE, PUSH and POP (41_memory_access.md R120 to R130). -/

namespace Sys2Proof.Machine

/-- The end of a sub-word READ: the widened value goes to the destination and `pc` advances. -/
def loadInto {α : Type} (d : Reg) (widen : α → Word) (r : Res α) (s : State) : Res State :=
  andThen r fun v => .next (advance (writeReg s d (widen v)))

/-- The end of a WRITE: `pc` advances. -/
def afterStore (r : Res State) : Res State := andThen r fun t => .next (advance t)

/-- READ: `x[D] <- MemRead(ea, 4)`; with D = 0 the access still happens (R121, 10_state.md R11). -/
def execRead (d a : Reg) (c : Const16) (s : State) : Res State :=
  andThen (memReadWord s (effAddr s a c)) fun p => .next (advance (writeReg p.2 d p.1))

/-- READB: `x[D] <- sext_8(MemRead(ea, 1))` (R122). -/
def execReadb (d a : Reg) (c : Const16) (s : State) : Res State := loadInto d sext8 (memReadByte s (effAddr s a c)) s

/-- READBU: `x[D] <- zext_8(MemRead(ea, 1))` (R123). -/
def execReadbu (d a : Reg) (c : Const16) (s : State) : Res State := loadInto d zext8 (memReadByte s (effAddr s a c)) s

/-- READH: `x[D] <- sext_16(MemRead(ea, 2))` (R124). -/
def execReadh (d a : Reg) (c : Const16) (s : State) : Res State := loadInto d sext16 (memReadHalf s (effAddr s a c)) s

/-- READHU: `x[D] <- zext_16(MemRead(ea, 2))` (R125). -/
def execReadhu (d a : Reg) (c : Const16) (s : State) : Res State := loadInto d zext16 (memReadHalf s (effAddr s a c)) s

/-- WRITE: `MemWrite(ea, 4, x[B])` (R126). -/
def execWrite (b a : Reg) (c : Const16) (s : State) : Res State :=
  afterStore (memWriteWord s (effAddr s a c) (readReg s b))

/-- WRITEB: `MemWrite(ea, 1, x[B][7:0])` (R127). -/
def execWriteb (b a : Reg) (c : Const16) (s : State) : Res State :=
  afterStore (memWriteByte s (effAddr s a c) ((readReg s b).extractLsb' 0 8))

/-- WRITEH: `MemWrite(ea, 2, x[B][15:0])` (R128). -/
def execWriteh (b a : Reg) (c : Const16) (s : State) : Res State :=
  afterStore (memWriteHalf s (effAddr s a c) ((readReg s b).extractLsb' 0 16))

/-- PUSH: `STACK[SP] <- x[B]; SP <- (SP + 1) mod 256; pc <- pc + 4` (R129). -/
def execPush (b : Reg) (s : State) : Res State := .next (advance (pushStack s (readReg s b)))

/-- POP: `SP <- (SP - 1) mod 256; x[D] <- STACK[SP]; pc <- pc + 4` (R130). -/
def execPop (d : Reg) (s : State) : Res State := .next (advance (writeReg (popStack s).2 d (popStack s).1))

end Sys2Proof.Machine
end

