-- ==== Sys2Proof/Machine/Misc.lean ====
section
/-! DEFINITION. INTID and CCACHE (44_misc.md). -/

namespace Sys2Proof.Machine

/-- INTID: `x[D] <- zext_4(int_id); pc <- pc + 4` (R180). -/
def execIntid (d : Reg) (s : State) : Res State := .next (advance (writeReg s d (zext4 s.intId)))

/-- CCACHE: write back and invalidate everything (R181). -/
def execCcache (s : State) : Res State := .next (advance (clearCaches s))

end Sys2Proof.Machine
end

