-- ==== Sys2Proof/Machine/Dispatch.lean ====
section
/-! DEFINITION. One arm per instruction (30_encoding.md R89). -/

namespace Sys2Proof.Machine

def exec (i : Instr) (s : State) : Host.Outcome State Fault Refusal :=
  match i with
  | .halt => Sys2Proof.Machine.execHalt s
  | .read d a c => Sys2Proof.Machine.execRead d a c s
  | .readb d a c => Sys2Proof.Machine.execReadb d a c s
  | .readbu d a c => Sys2Proof.Machine.execReadbu d a c s
  | .readh d a c => Sys2Proof.Machine.execReadh d a c s
  | .readhu d a c => Sys2Proof.Machine.execReadhu d a c s
  | .write b a c => Sys2Proof.Machine.execWrite b a c s
  | .writeb b a c => Sys2Proof.Machine.execWriteb b a c s
  | .writeh b a c => Sys2Proof.Machine.execWriteh b a c s
  | .intid d => Sys2Proof.Machine.execIntid d s
  | .push b => Sys2Proof.Machine.execPush b s
  | .pop d => Sys2Proof.Machine.execPop d s
  | .jump c => Sys2Proof.Machine.execJump c s
  | .jumpo c => Sys2Proof.Machine.execJumpo c s
  | .jumpr b c => Sys2Proof.Machine.execJumpr b c s
  | .jumpro b c => Sys2Proof.Machine.execJumpro b c s
  | .ccache => Sys2Proof.Machine.execCcache s
  | .beq a b c => Sys2Proof.Machine.execBeq a b c s
  | .bne a b c => Sys2Proof.Machine.execBne a b c s
  | .bgt a b c => Sys2Proof.Machine.execBgt a b c s
  | .bge a b c => Sys2Proof.Machine.execBge a b c s
  | .blt a b c => Sys2Proof.Machine.execBlt a b c s
  | .ble a b c => Sys2Proof.Machine.execBle a b c s
  | .bgts a b c => Sys2Proof.Machine.execBgts a b c s
  | .bges a b c => Sys2Proof.Machine.execBges a b c s
  | .blts a b c => Sys2Proof.Machine.execBlts a b c s
  | .bles a b c => Sys2Proof.Machine.execBles a b c s
  | .savpc d => Sys2Proof.Machine.execSavpc d s
  | .reti => Sys2Proof.Machine.execReti s
  | .or d a b => Sys2Proof.Machine.execOr d a b s
  | .and d a b => Sys2Proof.Machine.execAnd d a b s
  | .xor d a b => Sys2Proof.Machine.execXor d a b s
  | .add d a b => Sys2Proof.Machine.execAdd d a b s
  | .sub d a b => Sys2Proof.Machine.execSub d a b s
  | .shiftl d a b => Sys2Proof.Machine.execShiftl d a b s
  | .shiftr d a b => Sys2Proof.Machine.execShiftr d a b s
  | .not d a b => Sys2Proof.Machine.execNot d a b s
  | .slt d a b => Sys2Proof.Machine.execSlt d a b s
  | .sltu d a b => Sys2Proof.Machine.execSltu d a b s
  | .load d a b => Sys2Proof.Machine.execLoad d a b s
  | .loadhi d a b => Sys2Proof.Machine.execLoadhi d a b s
  | .shiftrs d a b => Sys2Proof.Machine.execShiftrs d a b s
  | .orC d a c => Sys2Proof.Machine.execOrC d a c s
  | .andC d a c => Sys2Proof.Machine.execAndC d a c s
  | .xorC d a c => Sys2Proof.Machine.execXorC d a c s
  | .addC d a c => Sys2Proof.Machine.execAddC d a c s
  | .subC d a c => Sys2Proof.Machine.execSubC d a c s
  | .shiftlC d a c => Sys2Proof.Machine.execShiftlC d a c s
  | .shiftrC d a c => Sys2Proof.Machine.execShiftrC d a c s
  | .notC d a c => Sys2Proof.Machine.execNotC d a c s
  | .sltC d a c => Sys2Proof.Machine.execSltC d a c s
  | .sltuC d a c => Sys2Proof.Machine.execSltuC d a c s
  | .loadC d a c => Sys2Proof.Machine.execLoadC d a c s
  | .loadhiC d a c => Sys2Proof.Machine.execLoadhiC d a c s
  | .shiftrsC d a c => Sys2Proof.Machine.execShiftrsC d a c s
  | .mults d a b => Sys2Proof.Machine.execMults d a b s
  | .multu d a b => Sys2Proof.Machine.execMultu d a b s
  | .multfp d a b => Sys2Proof.Machine.execMultfp d a b s
  | .divs d a b => Sys2Proof.Machine.execDivs d a b s
  | .divu d a b => Sys2Proof.Machine.execDivu d a b s
  | .divfp d a b => Sys2Proof.Machine.execDivfp d a b s
  | .mods d a b => Sys2Proof.Machine.execMods d a b s
  | .modu d a b => Sys2Proof.Machine.execModu d a b s
  | .mulshi d a b => Sys2Proof.Machine.execMulshi d a b s
  | .multuhi d a b => Sys2Proof.Machine.execMultuhi d a b s
  | .multsC d a c => Sys2Proof.Machine.execMultsC d a c s
  | .multuC d a c => Sys2Proof.Machine.execMultuC d a c s
  | .multfpC d a c => Sys2Proof.Machine.execMultfpC d a c s
  | .divsC d a c => Sys2Proof.Machine.execDivsC d a c s
  | .divuC d a c => Sys2Proof.Machine.execDivuC d a c s
  | .divfpC d a c => Sys2Proof.Machine.execDivfpC d a c s
  | .modsC d a c => Sys2Proof.Machine.execModsC d a c s
  | .moduC d a c => Sys2Proof.Machine.execModuC d a c s
  | .mulshiC d a c => Sys2Proof.Machine.execMulshiC d a c s
  | .multuhiC d a c => Sys2Proof.Machine.execMultuhiC d a c s
  | .fmul fd fa fb => Sys2Proof.Machine.execFmul fd fa fb s
  | .fadd fd fa fb => Sys2Proof.Machine.execFadd fd fa fb s
  | .fsub fd fa fb => Sys2Proof.Machine.execFsub fd fa fb s
  | .fld fd a b => Sys2Proof.Machine.execFld fd a b s
  | .fsthi d fa => Sys2Proof.Machine.execFsthi d fa s
  | .fstlo d fa => Sys2Proof.Machine.execFstlo d fa s

end Sys2Proof.Machine
end

