-- ==== Sys2Proof/Machine/Step.lean ====
section
/-! DEFINITION. One step of the machine (70_reset_and_hazards.md R236): fetch, decode, execute. -/

namespace Sys2Proof.Machine

/-- Execute the word fetched, or refuse it by the name of its class (30_encoding.md R81). -/
def runWord (w : Word) (s : State) : Host.Outcome State Fault Refusal :=
  match decodeWord w with
  | .ok i => exec i s
  | .error e => .refused (.reservedEncoding e)

/-- One step (70_reset_and_hazards.md R236). Nothing happens between steps: an interrupt is the tail of the step of the jump at which it
is taken. -/
def step (s : State) : Host.Outcome State Fault Refusal :=
  andThen (fetchWord s) fun p => runWord p.1 p.2

/-- `s` with the instruction `w` of `nbits` bits stored where the next step fetches, that fetch coherent. Log entry 4. -/
def State.withFetchWord (s : State) (nbits w : Nat) : State := placeAtPc s (BitVec.ofNat 32 (w % 2 ^ nbits))

end Sys2Proof.Machine
end

