-- ==== Sys2Proof/OpcodeTable.lean ====
section
/-! DEFINITION. spec/opcode_table.json as data: each row's mnemonic, match and mask (30_encoding.md rule R89), in the table's order, and
the mnemonic of each instruction. The statements about the decoder hold it against this table; the decoder does not use it. -/

namespace Sys2Proof

/-- A row of the opcode table: a word `w` spells it iff `w AND mask = pattern` (30_encoding.md R89). -/
structure OpcodeRow where
  mnemonic : String
  pattern : Word
  mask : Word
  deriving DecidableEq, Repr

/-- The rows of HALT to RETI. -/
def opcodeRowsMemoryAndControl : List OpcodeRow := [
  ⟨"HALT", 0xFFFFFFFF#32, 0xFFFFFFFF#32⟩,
  ⟨"READ", 0xE0000000#32, 0xF00000F0#32⟩,
  ⟨"READB", 0xE0000010#32, 0xF00000F0#32⟩,
  ⟨"READBU", 0xE0000050#32, 0xF00000F0#32⟩,
  ⟨"READH", 0xE0000020#32, 0xF00000F0#32⟩,
  ⟨"READHU", 0xE0000060#32, 0xF00000F0#32⟩,
  ⟨"WRITE", 0xD0000000#32, 0xF000000F#32⟩,
  ⟨"WRITEB", 0xD0000001#32, 0xF000000F#32⟩,
  ⟨"WRITEH", 0xD0000002#32, 0xF000000F#32⟩,
  ⟨"INTID", 0xC0000000#32, 0xF0000000#32⟩,
  ⟨"PUSH", 0xB0000000#32, 0xF0000000#32⟩,
  ⟨"POP", 0xA0000000#32, 0xF0000000#32⟩,
  ⟨"JUMP", 0x90000000#32, 0xF0000001#32⟩,
  ⟨"JUMPO", 0x90000001#32, 0xF0000001#32⟩,
  ⟨"JUMPR", 0x80000000#32, 0xF0000001#32⟩,
  ⟨"JUMPRO", 0x80000001#32, 0xF0000001#32⟩,
  ⟨"CCACHE", 0x70000000#32, 0xF0000000#32⟩,
  ⟨"BEQ", 0x60000000#32, 0xF000000E#32⟩,
  ⟨"BNE", 0x60000008#32, 0xF000000E#32⟩,
  ⟨"BGT", 0x60000002#32, 0xF000000F#32⟩,
  ⟨"BGE", 0x60000004#32, 0xF000000F#32⟩,
  ⟨"BLT", 0x6000000A#32, 0xF000000F#32⟩,
  ⟨"BLE", 0x6000000C#32, 0xF000000F#32⟩,
  ⟨"BGTS", 0x60000003#32, 0xF000000F#32⟩,
  ⟨"BGES", 0x60000005#32, 0xF000000F#32⟩,
  ⟨"BLTS", 0x6000000B#32, 0xF000000F#32⟩,
  ⟨"BLES", 0x6000000D#32, 0xF000000F#32⟩,
  ⟨"SAVPC", 0x50000000#32, 0xF0000000#32⟩,
  ⟨"RETI", 0x40000000#32, 0xF0000000#32⟩]

/-- The rows of ARITHMC and ARITHM. -/
def opcodeRowsMulti : List OpcodeRow := [
  ⟨"MULTS.C", 0x30000000#32, 0xFF000000#32⟩,
  ⟨"MULTU.C", 0x31000000#32, 0xFF000000#32⟩,
  ⟨"MULTFP.C", 0x32000000#32, 0xFF000000#32⟩,
  ⟨"DIVS.C", 0x33000000#32, 0xFF000000#32⟩,
  ⟨"DIVU.C", 0x34000000#32, 0xFF000000#32⟩,
  ⟨"DIVFP.C", 0x35000000#32, 0xFF000000#32⟩,
  ⟨"MODS.C", 0x36000000#32, 0xFF000000#32⟩,
  ⟨"MODU.C", 0x37000000#32, 0xFF000000#32⟩,
  ⟨"MULSHI.C", 0x3E000000#32, 0xFF000000#32⟩,
  ⟨"MULTUHI.C", 0x3F000000#32, 0xFF000000#32⟩,
  ⟨"MULTS", 0x20000000#32, 0xFF000000#32⟩,
  ⟨"MULTU", 0x21000000#32, 0xFF000000#32⟩,
  ⟨"MULTFP", 0x22000000#32, 0xFF000000#32⟩,
  ⟨"DIVS", 0x23000000#32, 0xFF000000#32⟩,
  ⟨"DIVU", 0x24000000#32, 0xFF000000#32⟩,
  ⟨"DIVFP", 0x25000000#32, 0xFF000000#32⟩,
  ⟨"MODS", 0x26000000#32, 0xFF000000#32⟩,
  ⟨"MODU", 0x27000000#32, 0xFF000000#32⟩,
  ⟨"MULSHI", 0x2E000000#32, 0xFF000000#32⟩,
  ⟨"MULTUHI", 0x2F000000#32, 0xFF000000#32⟩,
  ⟨"FMUL", 0x28000000#32, 0xFF000000#32⟩,
  ⟨"FADD", 0x29000000#32, 0xFF000000#32⟩,
  ⟨"FSUB", 0x2A000000#32, 0xFF000000#32⟩,
  ⟨"FLD", 0x2B000000#32, 0xFF000000#32⟩,
  ⟨"FSTHI", 0x2C000000#32, 0xFF000000#32⟩,
  ⟨"FSTLO", 0x2D000000#32, 0xFF000000#32⟩]

/-- The rows of ARITHC and ARITH. -/
def opcodeRowsSingle : List OpcodeRow := [
  ⟨"OR.C", 0x10000000#32, 0xFF000000#32⟩,
  ⟨"AND.C", 0x11000000#32, 0xFF000000#32⟩,
  ⟨"XOR.C", 0x12000000#32, 0xFF000000#32⟩,
  ⟨"ADD.C", 0x13000000#32, 0xFF000000#32⟩,
  ⟨"SUB.C", 0x14000000#32, 0xFF000000#32⟩,
  ⟨"SHIFTL.C", 0x15000000#32, 0xFF000000#32⟩,
  ⟨"SHIFTR.C", 0x16000000#32, 0xFF000000#32⟩,
  ⟨"NOT.C", 0x17000000#32, 0xFF000000#32⟩,
  ⟨"SLT.C", 0x1A000000#32, 0xFF000000#32⟩,
  ⟨"SLTU.C", 0x1B000000#32, 0xFF000000#32⟩,
  ⟨"LOAD.C", 0x1C000000#32, 0xFF000000#32⟩,
  ⟨"LOADHI.C", 0x1D000000#32, 0xFF000000#32⟩,
  ⟨"SHIFTRS.C", 0x1E000000#32, 0xFF000000#32⟩,
  ⟨"OR", 0x00000000#32, 0xFF000000#32⟩,
  ⟨"AND", 0x01000000#32, 0xFF000000#32⟩,
  ⟨"XOR", 0x02000000#32, 0xFF000000#32⟩,
  ⟨"ADD", 0x03000000#32, 0xFF000000#32⟩,
  ⟨"SUB", 0x04000000#32, 0xFF000000#32⟩,
  ⟨"SHIFTL", 0x05000000#32, 0xFF000000#32⟩,
  ⟨"SHIFTR", 0x06000000#32, 0xFF000000#32⟩,
  ⟨"NOT", 0x07000000#32, 0xFF000000#32⟩,
  ⟨"SLT", 0x0A000000#32, 0xFF000000#32⟩,
  ⟨"SLTU", 0x0B000000#32, 0xFF000000#32⟩,
  ⟨"LOAD", 0x0C000000#32, 0xFF000000#32⟩,
  ⟨"LOADHI", 0x0D000000#32, 0xFF000000#32⟩,
  ⟨"SHIFTRS", 0x0E000000#32, 0xFF000000#32⟩]

/-- The 81 rows. -/
def opcodeTable : List OpcodeRow := opcodeRowsMemoryAndControl ++ opcodeRowsMulti ++ opcodeRowsSingle

/-- The row an instruction stands for. -/
def Instr.mnemonic : Instr → String
  | .halt => "HALT"
  | .read _ _ _ => "READ"
  | .readb _ _ _ => "READB"
  | .readbu _ _ _ => "READBU"
  | .readh _ _ _ => "READH"
  | .readhu _ _ _ => "READHU"
  | .write _ _ _ => "WRITE"
  | .writeb _ _ _ => "WRITEB"
  | .writeh _ _ _ => "WRITEH"
  | .intid _ => "INTID"
  | .push _ => "PUSH"
  | .pop _ => "POP"
  | .jump _ => "JUMP"
  | .jumpo _ => "JUMPO"
  | .jumpr _ _ => "JUMPR"
  | .jumpro _ _ => "JUMPRO"
  | .ccache => "CCACHE"
  | .beq _ _ _ => "BEQ"
  | .bne _ _ _ => "BNE"
  | .bgt _ _ _ => "BGT"
  | .bge _ _ _ => "BGE"
  | .blt _ _ _ => "BLT"
  | .ble _ _ _ => "BLE"
  | .bgts _ _ _ => "BGTS"
  | .bges _ _ _ => "BGES"
  | .blts _ _ _ => "BLTS"
  | .bles _ _ _ => "BLES"
  | .savpc _ => "SAVPC"
  | .reti => "RETI"
  | .or _ _ _ => "OR"
  | .and _ _ _ => "AND"
  | .xor _ _ _ => "XOR"
  | .add _ _ _ => "ADD"
  | .sub _ _ _ => "SUB"
  | .shiftl _ _ _ => "SHIFTL"
  | .shiftr _ _ _ => "SHIFTR"
  | .not _ _ _ => "NOT"
  | .slt _ _ _ => "SLT"
  | .sltu _ _ _ => "SLTU"
  | .load _ _ _ => "LOAD"
  | .loadhi _ _ _ => "LOADHI"
  | .shiftrs _ _ _ => "SHIFTRS"
  | .orC _ _ _ => "OR.C"
  | .andC _ _ _ => "AND.C"
  | .xorC _ _ _ => "XOR.C"
  | .addC _ _ _ => "ADD.C"
  | .subC _ _ _ => "SUB.C"
  | .shiftlC _ _ _ => "SHIFTL.C"
  | .shiftrC _ _ _ => "SHIFTR.C"
  | .notC _ _ _ => "NOT.C"
  | .sltC _ _ _ => "SLT.C"
  | .sltuC _ _ _ => "SLTU.C"
  | .loadC _ _ _ => "LOAD.C"
  | .loadhiC _ _ _ => "LOADHI.C"
  | .shiftrsC _ _ _ => "SHIFTRS.C"
  | .mults _ _ _ => "MULTS"
  | .multu _ _ _ => "MULTU"
  | .multfp _ _ _ => "MULTFP"
  | .divs _ _ _ => "DIVS"
  | .divu _ _ _ => "DIVU"
  | .divfp _ _ _ => "DIVFP"
  | .mods _ _ _ => "MODS"
  | .modu _ _ _ => "MODU"
  | .mulshi _ _ _ => "MULSHI"
  | .multuhi _ _ _ => "MULTUHI"
  | .multsC _ _ _ => "MULTS.C"
  | .multuC _ _ _ => "MULTU.C"
  | .multfpC _ _ _ => "MULTFP.C"
  | .divsC _ _ _ => "DIVS.C"
  | .divuC _ _ _ => "DIVU.C"
  | .divfpC _ _ _ => "DIVFP.C"
  | .modsC _ _ _ => "MODS.C"
  | .moduC _ _ _ => "MODU.C"
  | .mulshiC _ _ _ => "MULSHI.C"
  | .multuhiC _ _ _ => "MULTUHI.C"
  | .fmul _ _ _ => "FMUL"
  | .fadd _ _ _ => "FADD"
  | .fsub _ _ _ => "FSUB"
  | .fld _ _ _ => "FLD"
  | .fsthi _ _ => "FSTHI"
  | .fstlo _ _ => "FSTLO"

end Sys2Proof
end

