-- ==== Sys2Proof/Safety.lean ====
section
/-! DEFINITION. What counts as a safe run, and the terms the statements use: what an instruction leaves alone, what it writes, and the
invariant of the machine. -/

namespace Sys2Proof.Machine

/-! ## Running on -/

/-- The step completes: no fault, no refusal (00_scope.md R7). -/
def Completes (s : State) : Prop := ∃ t, step s = .next t

/-- `k` steps run with no stop. -/
def SafeFor : Nat → State → Prop
  | 0, _ => True
  | k + 1, s => ∃ t, step s = .next t ∧ SafeFor k t

/-! ## The invariant -/

/-- What every step keeps. -/
structure Inv (s : State) : Prop where
  /-- memory is in its canonical form -/
  memSorted : Memory.wf s.mem
  /-- only SDRAM holds bytes that are stored or given (20_memory.md R31) -/
  memInSdram : ∀ c ∈ s.mem, regionOf c.1 = .sdram
  /-- the bytes given of the ROM are in the same form -/
  romSorted : Memory.wf s.rom
  /-- and they are bytes of the ROM (20_memory.md R31, R42) -/
  romInRom : ∀ c ∈ s.rom, regionOf c.1 = .rom
  /-- what was stored since the latest CCACHE are words of SDRAM (20_memory.md R52) -/
  storesInSdram : ∀ r ∈ s.storesSinceCcache, r.addr % 4 = 0 ∧ regionOf r.addr = .sdram
  /-- int_id is an interrupt number (10_state.md R21) -/
  intIdRange : 1 ≤ s.intId.toNat ∧ s.intId.toNat ≤ 8

/-! ## What is left alone -/

/-- Every general register reads as before. -/
def KeepsRegs (s t : State) : Prop := ∀ r, readReg t r = readReg s r

/-- Every FP64 register reads as before. -/
def KeepsFRegs (s t : State) : Prop := ∀ f, readF t f = readF s f

/-- The hardware stack and SP are as before. -/
def KeepsStack (s t : State) : Prop := (∀ i, stackAt t i = stackAt s i) ∧ t.sp = s.sp

/-- The requests outstanding and the environment are as before. -/
def KeepsRequests (s t : State) : Prop := t.pending = s.pending ∧ t.irqEnv = s.irqEnv ∧ t.irqDraws = s.irqDraws

/-- PC_backup, int_disabled, int_id, the requests outstanding and the environment are as before. -/
def KeepsInterrupts (s t : State) : Prop :=
  t.pcBackup = s.pcBackup ∧ t.intDisabled = s.intDisabled ∧ t.intId = s.intId ∧ KeepsRequests s t

/-- What the fetch rule remembers (20_memory.md R52) is as before. -/
def KeepsFetch (s t : State) : Prop := t.storesSinceCcache = s.storesSinceCcache ∧ t.raceCount = s.raceCount

/-- No device has been accessed. -/
def KeepsDevices (s t : State) : Prop := t.deviceLog = s.deviceLog

/-- Every byte of memory reads as before. -/
def KeepsMemory (s t : State) : Prop := ∀ a, readByte t a = readByte s a

/-- Every byte of memory outside the `n` bytes at `a` reads as before. -/
def KeepsMemoryBut (s t : State) (a n : Nat) : Prop := ∀ x, x < a ∨ a + n ≤ x → readByte t x = readByte s x

/-! ## What an instruction does -/

/-- The whole effect of an instruction whose one result `v` goes to general register `d` (nowhere for r0, 10_state.md R11) and that goes
on to the next instruction (10_state.md R14). -/
structure RegResult (s t : State) (d : Reg) (v : Word) : Prop where
  regs : ∀ r, readReg t r = if r = d ∧ d ≠ 0#4 then v else readReg s r
  pc : t.pc = s.pc + 4#32
  fregs : KeepsFRegs s t
  stack : KeepsStack s t
  interrupts : KeepsInterrupts s t
  fetch : KeepsFetch s t
  devices : KeepsDevices s t
  memory : KeepsMemory s t

/-- The whole effect of an instruction whose one result `v` goes to the FP64 register the low three bits of `fd` name. -/
structure FRegResult (s t : State) (fd : FReg) (v : FWord) : Prop where
  fregs : ∀ f : FReg, readF t f = if f.toNat % 8 = fd.toNat % 8 then v else readF s f
  pc : t.pc = s.pc + 4#32
  regs : KeepsRegs s t
  stack : KeepsStack s t
  interrupts : KeepsInterrupts s t
  fetch : KeepsFetch s t
  devices : KeepsDevices s t
  memory : KeepsMemory s t

/-- The whole effect of a store of `bs` to the SDRAM bytes from `a` upward. -/
structure StoreResult (s t : State) (a : Nat) (bs : List Byte) : Prop where
  stored : ∀ k (h : k < bs.length), readByte t (a + k) = some bs[k]
  memory : KeepsMemoryBut s t a bs.length
  recorded : t.storesSinceCcache = ⟨a / 4 * 4, loadWord s.mem (a / 4 * 4)⟩ :: s.storesSinceCcache
  races : t.raceCount = s.raceCount
  pc : t.pc = s.pc + 4#32
  regs : KeepsRegs s t
  fregs : KeepsFRegs s t
  stack : KeepsStack s t
  interrupts : KeepsInterrupts s t
  devices : KeepsDevices s t

/-- Line `k` is the one taken of the requests `p`: it is requested and no lower line is (60_exceptions.md R205). -/
def LowestLine (p : BitVec 8) (k : Nat) : Prop := k < 8 ∧ p.getLsbD k = true ∧ ∀ j, j < k → p.getLsbD j = false

/-- The environment has passed an enabled interrupt point: one more answer of the free environment is used, or the first of a schedule
(60_exceptions.md R203). -/
structure EnvironmentMovesOn (s t : State) : Prop where
  free : s.irqEnv = .free → t.irqEnv = .free ∧ t.irqDraws = s.irqDraws + 1
  schedule : ∀ l, s.irqEnv = .schedule l → t.irqEnv = .schedule l.tail ∧ t.irqDraws = s.irqDraws

/-- The whole effect of a taken jump or branch to `target` (60_exceptions.md R206, R207). -/
structure JumpResult (s t : State) (target : Word) : Prop where
  /-- interrupts disabled: not an interrupt point -/
  disabled : s.intDisabled = true → t.pc = target ∧ KeepsInterrupts s t
  /-- enabled and nothing requested -/
  quiet : s.intDisabled = false → offered s = 0#8 →
    t.pc = target ∧ t.pcBackup = s.pcBackup ∧ t.intDisabled = false ∧ t.intId = s.intId ∧ t.pending = 0#8 ∧ EnvironmentMovesOn s t
  /-- enabled, and line `k` is the lowest requested: the handler is entered, the other requests stay outstanding -/
  taken : ∀ k, s.intDisabled = false → LowestLine (offered s) k →
    t.pc = 0x00000004#32 ∧ t.pcBackup = target ∧ t.intDisabled = true ∧ t.intId.toNat = k + 1 ∧
    (∀ j, j < 8 → t.pending.getLsbD j = ((offered s).getLsbD j && j != k)) ∧ EnvironmentMovesOn s t
  regs : KeepsRegs s t
  fregs : KeepsFRegs s t
  stack : KeepsStack s t
  fetch : KeepsFetch s t
  devices : KeepsDevices s t
  memory : KeepsMemory s t

/-- The whole effect of going on to the next instruction. -/
structure GoesOn (s t : State) : Prop where
  pc : t.pc = s.pc + 4#32
  regs : KeepsRegs s t
  fregs : KeepsFRegs s t
  stack : KeepsStack s t
  interrupts : KeepsInterrupts s t
  fetch : KeepsFetch s t
  devices : KeepsDevices s t
  memory : KeepsMemory s t

/-- The constant form's second operand: the 16-bit constant read as a signed integer, in 32 bits (30_encoding.md R72, R73). -/
def constOperand (c : Const16) : Word := BitVec.ofInt 32 c.toInt

/-- An ALU operation in its register form `r` and its constant form `k` completes from every state, with a result that stands in the
relation `P` to the two operands A and B, and does nothing else (42_arith_single.md R140, 43_arith_multi.md R160). -/
def AluEffect (r : Reg → Reg → Reg → Instr) (k : Reg → Reg → Const16 → Instr) (P : Word → Word → Word → Prop) : Prop :=
  ∀ (s : State) (d a : Reg),
    (∀ b, ∃ t v, exec (r d a b) s = .next t ∧ P (readReg s a) (readReg s b) v ∧ RegResult s t d v) ∧
    (∀ c, ∃ t v, exec (k d a c) s = .next t ∧ P (readReg s a) (constOperand c) v ∧ RegResult s t d v)

/-- A branch jumps to `pc` plus its signed constant where the condition holds of A and B, and goes on to the next instruction where it
does not (40_control_flow.md R106). -/
def BranchEffect (br : Reg → Reg → Const16 → Instr) (C : Word → Word → Prop) : Prop :=
  ∀ (s : State) (a b : Reg) (c : Const16),
    (C (readReg s a) (readReg s b) → ∃ t, exec (br a b c) s = .next t ∧ JumpResult s t (s.pc + constOperand c)) ∧
    (¬ C (readReg s a) (readReg s b) → ∃ t, exec (br a b c) s = .next t ∧ GoesOn s t)

/-- The canonical words of an ALU operation: primary opcodes `op` (register form, its x bits 0) and `op + 1` (constant form) with ALU opcode
`aop`, the fields at the places of 30_encoding.md R71. -/
def AluCanonicalWords (r : Reg → Reg → Reg → Instr) (k : Reg → Reg → Const16 → Instr) (op aop : Nat) : Prop :=
  ∀ w : Word, w.toNat / 2 ^ 24 % 16 = aop →
    (w.toNat / 2 ^ 28 = op → w.toNat / 2 ^ 12 % 2 ^ 12 = 0 →
      decodeWord w = .ok (r (BitVec.ofNat 4 w.toNat) (BitVec.ofNat 4 (w.toNat / 2 ^ 8)) (BitVec.ofNat 4 (w.toNat / 2 ^ 4)))) ∧
    (w.toNat / 2 ^ 28 = op + 1 →
      decodeWord w = .ok (k (BitVec.ofNat 4 w.toNat) (BitVec.ofNat 4 (w.toNat / 2 ^ 4)) (BitVec.ofNat 16 (w.toNat / 2 ^ 8))))

/-- The words of an ALU operation: primary opcodes `op` (register form) and `op + 1` (constant form) with ALU opcode `aop`, the fields at
the places of 30_encoding.md R71, whatever the x bits are (R80). -/
def AluWords (r : Reg → Reg → Reg → Instr) (k : Reg → Reg → Const16 → Instr) (op aop : Nat) : Prop :=
  ∀ w : Word, w.toNat / 2 ^ 24 % 16 = aop →
    (w.toNat / 2 ^ 28 = op →
      decodeWord w = .ok (r (BitVec.ofNat 4 w.toNat) (BitVec.ofNat 4 (w.toNat / 2 ^ 8)) (BitVec.ofNat 4 (w.toNat / 2 ^ 4)))) ∧
    (w.toNat / 2 ^ 28 = op + 1 →
      decodeWord w = .ok (k (BitVec.ofNat 4 w.toNat) (BitVec.ofNat 4 (w.toNat / 2 ^ 4)) (BitVec.ofNat 16 (w.toNat / 2 ^ 8))))

/-- `q` is `n / m` rounded toward zero and `r` the remainder: zero or of the dividend's sign (43_arith_multi.md R164, R167). -/
def IsTruncated (n m q r : Int) : Prop :=
  n = m * q + r ∧ r.natAbs < m.natAbs ∧ (0 ≤ n → 0 ≤ r) ∧ (n ≤ 0 → r ≤ 0)

/-! ## Addresses -/

/-- The effective address of a READ or WRITE, `(x[A] + sext_16(const16)) mod 2^32` (41_memory_access.md R120). -/
def addrOf (s : State) (a : Reg) (c : Const16) : Nat := (readReg s a + constOperand c).toNat

/-- SDRAM (20_memory.md R31). -/
def InSdram (x : Nat) : Prop := x ≤ 0x03FFFFFF

/-- The boot ROM (20_memory.md R31). -/
def InRom (x : Nat) : Prop := 0x1E000000 ≤ x ∧ x ≤ 0x1E000FFF

/-- The I/O region and the three VRAM regions, device memory (20_memory.md R31, R43). -/
def InDevice (x : Nat) : Prop :=
  (0x1C000000 ≤ x ∧ x ≤ 0x1C00006F) ∨ (0x1E400000 ≤ x ∧ x ≤ 0x1E40107F) ∨ (0x1E800000 ≤ x ∧ x ≤ 0x1E808007) ∨
  (0x1EC00000 ≤ x ∧ x ≤ 0x1EC4AFFF)

/-- CPU internal I/O (20_memory.md R44). -/
def InInternal (x : Nat) : Prop := 0x1F000000 ≤ x ∧ x ≤ 0x1F000007

/-- The unmapped addresses, as 20_memory.md R45 lists them. -/
def IsUnmapped (x : Nat) : Prop :=
  (0x04000000 ≤ x ∧ x ≤ 0x1BFFFFFF) ∨ (0x1C000070 ≤ x ∧ x ≤ 0x1DFFFFFF) ∨ (0x1E001000 ≤ x ∧ x ≤ 0x1E3FFFFF) ∨
  (0x1E401080 ≤ x ∧ x ≤ 0x1E7FFFFF) ∨ (0x1E808008 ≤ x ∧ x ≤ 0x1EBFFFFF) ∨ (0x1EC4B000 ≤ x ∧ x ≤ 0x1EFFFFFF) ∨
  (0x1F000008 ≤ x ∧ x ≤ 0xFFFFFFFF)

/-! ## Who may write what (10_state.md R28) -/

/-- The general register an instruction writes. -/
def destReg : Instr → Option Reg
  | .read d _ _ | .readb d _ _ | .readbu d _ _ | .readh d _ _ | .readhu d _ _ => some d
  | .intid d | .pop d | .savpc d => some d
  | .or d _ _ | .and d _ _ | .xor d _ _ | .add d _ _ | .sub d _ _ | .shiftl d _ _ | .shiftr d _ _ => some d
  | .not d _ _ | .slt d _ _ | .sltu d _ _ | .load d _ _ | .loadhi d _ _ | .shiftrs d _ _ => some d
  | .orC d _ _ | .andC d _ _ | .xorC d _ _ | .addC d _ _ | .subC d _ _ | .shiftlC d _ _ | .shiftrC d _ _ => some d
  | .notC d _ _ | .sltC d _ _ | .sltuC d _ _ | .loadC d _ _ | .loadhiC d _ _ | .shiftrsC d _ _ => some d
  | .mults d _ _ | .multu d _ _ | .multfp d _ _ | .divs d _ _ | .divu d _ _ | .divfp d _ _ => some d
  | .mods d _ _ | .modu d _ _ | .mulshi d _ _ | .multuhi d _ _ => some d
  | .multsC d _ _ | .multuC d _ _ | .multfpC d _ _ | .divsC d _ _ | .divuC d _ _ | .divfpC d _ _ => some d
  | .modsC d _ _ | .moduC d _ _ | .mulshiC d _ _ | .multuhiC d _ _ => some d
  | .fsthi d _ | .fstlo d _ => some d
  | .halt | .ccache | .reti | .write _ _ _ | .writeb _ _ _ | .writeh _ _ _ | .push _ => none
  | .jump _ | .jumpo _ | .jumpr _ _ | .jumpro _ _ => none
  | .beq _ _ _ | .bne _ _ _ | .bgt _ _ _ | .bge _ _ _ | .blt _ _ _ | .ble _ _ _ => none
  | .bgts _ _ _ | .bges _ _ _ | .blts _ _ _ | .bles _ _ _ => none
  | .fmul _ _ _ | .fadd _ _ _ | .fsub _ _ _ | .fld _ _ _ => none

/-- The FP64 register field an instruction writes. -/
def destFReg : Instr → Option FReg
  | .fmul fd _ _ | .fadd fd _ _ | .fsub fd _ _ | .fld fd _ _ => some fd
  | _ => none

/-- The instructions that store to memory. -/
def isWrite : Instr → Bool
  | .write _ _ _ | .writeb _ _ _ | .writeh _ _ _ => true
  | _ => false

/-- The execution of `i` in `s` is a taken jump or branch: HALT, a jump, or a branch whose condition holds (60_exceptions.md R206,
decision D15). -/
def takesJump (i : Instr) (s : State) : Prop :=
  match i with
  | .halt | .jump _ | .jumpo _ | .jumpr _ _ | .jumpro _ _ => True
  | .beq a b _ => readReg s a = readReg s b
  | .bne a b _ => readReg s a ≠ readReg s b
  | .bgt a b _ => (readReg s b).toNat < (readReg s a).toNat
  | .bge a b _ => (readReg s b).toNat ≤ (readReg s a).toNat
  | .blt a b _ => (readReg s a).toNat < (readReg s b).toNat
  | .ble a b _ => (readReg s a).toNat ≤ (readReg s b).toNat
  | .bgts a b _ => (readReg s b).toInt < (readReg s a).toInt
  | .bges a b _ => (readReg s b).toInt ≤ (readReg s a).toInt
  | .blts a b _ => (readReg s a).toInt < (readReg s b).toInt
  | .bles a b _ => (readReg s a).toInt ≤ (readReg s b).toInt
  | _ => False

end Sys2Proof.Machine
end

