-- ==== Sys2Proof/Certificates/Slice0/Obligations.lean ====
section
/-! DEFINITION. The statements for the provers. Each says which rules of spec/ it comes from. `exec`, `step` and the reading functions
are the model's; values are said in integers or bit slices, as the rules say them. -/

open Sys2Proof Sys2Proof.Machine

/-! ## The step and the encoding -/

/-- 70_reset_and_hazards.md R236, 20_memory.md R33, R47, R52: at an aligned `pc` in ROM, or in an SDRAM word not stored to since the
latest CCACHE, whose four bytes decode to `i`, the step is `exec i`. -/
def Obligations.StepRunsDecodedInstruction : Prop :=
  ∀ (s : State) (i : Instr) (b0 b1 b2 b3 : Byte),
    s.pc.toNat % 4 = 0 →
    (InRom s.pc.toNat ∨ (InSdram s.pc.toNat ∧ ∀ r ∈ s.storesSinceCcache, r.addr ≠ s.pc.toNat)) →
    readByte s s.pc.toNat = some b0 → readByte s (s.pc.toNat + 1) = some b1 →
    readByte s (s.pc.toNat + 2) = some b2 → readByte s (s.pc.toNat + 3) = some b3 →
    decode [b0, b1, b2, b3] = .ok (i, []) → step s = exec i s

/-- 30_encoding.md R62 to R79: decoding the encoding of a well-formed instruction gives it back, every operand at every value. -/
def Obligations.DecodeOfEncodeIsIdentity : Prop :=
  ∀ i : Instr, i.wellFormed = true → decode (encode i) = .ok (i, [])

/-- 30_encoding.md R89: a word spells a row of the opcode table iff `w AND mask = match`, and then it decodes to that row's
instruction; so rows never overlap. -/
def Obligations.OpcodeTableRowsSpellTheirInstruction : Prop :=
  ∀ row ∈ opcodeTable, ∀ w : Word,
    w &&& row.mask = row.pattern ↔ ∃ i, decodeWord w = .ok i ∧ i.mnemonic = row.mnemonic

/-- 30_encoding.md R81, R82 (decisions D6, D26): the six classes of reserved words are exactly the words the decoder rejects, each by
its name, and executing one is refused. -/
def Obligations.ReservedWordsAreRefusedByName : Prop :=
  (∀ w : Word,
    (decodeWord w = .error .reservedArith ↔
      (w.toNat / 2 ^ 28 = 0 ∨ w.toNat / 2 ^ 28 = 1) ∧
        (w.toNat / 2 ^ 24 % 16 = 8 ∨ w.toNat / 2 ^ 24 % 16 = 9 ∨ w.toNat / 2 ^ 24 % 16 = 15)) ∧
    (decodeWord w = .error .reservedBranch ↔
      w.toNat / 2 ^ 28 = 6 ∧ (w.toNat / 2 % 8 = 3 ∨ w.toNat / 2 % 8 = 7)) ∧
    (decodeWord w = .error .reservedRead ↔
      w.toNat / 2 ^ 28 = 14 ∧
        (w.toNat / 2 ^ 4 % 16 = 3 ∨ w.toNat / 2 ^ 4 % 16 = 4 ∨ 7 ≤ w.toNat / 2 ^ 4 % 16)) ∧
    (decodeWord w = .error .reservedWrite ↔ w.toNat / 2 ^ 28 = 13 ∧ 3 ≤ w.toNat % 16) ∧
    (decodeWord w = .error .reservedArithmc ↔
      w.toNat / 2 ^ 28 = 3 ∧ 8 ≤ w.toNat / 2 ^ 24 % 16 ∧ w.toNat / 2 ^ 24 % 16 ≤ 13) ∧
    (decodeWord w = .error .reservedHalt ↔ w.toNat / 2 ^ 28 = 15 ∧ w ≠ 0xFFFFFFFF#32) ∧
    decodeWord w ≠ .error .truncated) ∧
  (∀ (s t : State) (w : Word) (e : DecodeError),
    fetchWord s = .next (w, t) → decodeWord w = .error e → step s = .refused (.reservedEncoding e))

/-- 30_encoding.md R79: what the decoder answers is well-formed, whatever the ignored bits of the word. -/
def Obligations.DecodedInstructionsAreWellFormed : Prop :=
  ∀ (w : Word) (i : Instr), decodeWord w = .ok i → i.wellFormed = true

/-- 30_encoding.md R62 to R79: words written out from the formats, one or more of each of the sixteen primary opcodes, decode to their
instructions. -/
def Obligations.EncodingTableWordsDecode : Prop :=
  decodeWord 0xFFFFFFFF#32 = .ok .halt ∧
  decodeWord 0xE0008152#32 = .ok (.readbu 2#4 1#4 8#16) ∧
  decodeWord 0xDFFFC451#32 = .ok (.writeb 5#4 4#4 0xFFFC#16) ∧
  decodeWord 0xC0000007#32 = .ok (.intid 7#4) ∧
  decodeWord 0xB0000040#32 = .ok (.push 4#4) ∧
  decodeWord 0xA0000004#32 = .ok (.pop 4#4) ∧
  decodeWord 0x90000011#32 = .ok (.jumpo 8#27) ∧
  decodeWord 0x8FFFC031#32 = .ok (.jumpro 3#4 0xFFFC#16) ∧
  decodeWord 0x70000000#32 = .ok .ccache ∧
  decodeWord 0x6FFF8108#32 = .ok (.bne 1#4 0#4 0xFFF8#16) ∧
  decodeWord 0x5000000E#32 = .ok (.savpc 14#4) ∧
  decodeWord 0x40000000#32 = .ok .reti ∧
  decodeWord 0x06000123#32 = .ok (.shiftr 3#4 1#4 2#4) ∧
  decodeWord 0x1DDEAD11#32 = .ok (.loadhiC 1#4 1#4 0xDEAD#16) ∧
  decodeWord 0x23000123#32 = .ok (.divs 3#4 1#4 2#4) ∧
  decodeWord 0x37000A13#32 = .ok (.moduC 3#4 1#4 10#16) ∧
  decodeWord 0x2B0009A5#32 = .ok (.fld 5#4 9#4 10#4)

/-- 30_encoding.md R65, R66, R68, R70, R71, R79, R80 (decision D5): a word of format D-only, PUSH, no-operand, JUMPR, ARITH or ARITHM
decodes by its opcodes and its fields alone, whatever its x bits and bit 3 of its FP64 fields. That such a word is taken at all is the
reading of log entry 15; R80 lets a stricter model refuse it. -/
def Obligations.DontCareBitsAreIgnored : Prop :=
  (∀ w : Word,
    (w.toNat / 2 ^ 28 = 12 → decodeWord w = .ok (.intid (BitVec.ofNat 4 w.toNat))) ∧
    (w.toNat / 2 ^ 28 = 11 → decodeWord w = .ok (.push (BitVec.ofNat 4 (w.toNat / 2 ^ 4)))) ∧
    (w.toNat / 2 ^ 28 = 10 → decodeWord w = .ok (.pop (BitVec.ofNat 4 w.toNat))) ∧
    (w.toNat / 2 ^ 28 = 8 → w.toNat % 2 = 0 →
      decodeWord w = .ok (.jumpr (BitVec.ofNat 4 (w.toNat / 2 ^ 4)) (BitVec.ofNat 16 (w.toNat / 2 ^ 12)))) ∧
    (w.toNat / 2 ^ 28 = 8 → w.toNat % 2 = 1 →
      decodeWord w = .ok (.jumpro (BitVec.ofNat 4 (w.toNat / 2 ^ 4)) (BitVec.ofNat 16 (w.toNat / 2 ^ 12)))) ∧
    (w.toNat / 2 ^ 28 = 7 → decodeWord w = .ok .ccache) ∧
    (w.toNat / 2 ^ 28 = 5 → decodeWord w = .ok (.savpc (BitVec.ofNat 4 w.toNat))) ∧
    (w.toNat / 2 ^ 28 = 4 → decodeWord w = .ok .reti)) ∧
  AluWords .or .orC 0 0 ∧ AluWords .and .andC 0 1 ∧ AluWords .xor .xorC 0 2 ∧ AluWords .add .addC 0 3 ∧
  AluWords .sub .subC 0 4 ∧ AluWords .shiftl .shiftlC 0 5 ∧ AluWords .shiftr .shiftrC 0 6 ∧ AluWords .not .notC 0 7 ∧
  AluWords .slt .sltC 0 10 ∧ AluWords .sltu .sltuC 0 11 ∧ AluWords .load .loadC 0 12 ∧ AluWords .loadhi .loadhiC 0 13 ∧
  AluWords .shiftrs .shiftrsC 0 14 ∧ AluWords .mults .multsC 2 0 ∧ AluWords .multu .multuC 2 1 ∧
  AluWords .multfp .multfpC 2 2 ∧ AluWords .divs .divsC 2 3 ∧ AluWords .divu .divuC 2 4 ∧ AluWords .divfp .divfpC 2 5 ∧
  AluWords .mods .modsC 2 6 ∧ AluWords .modu .moduC 2 7 ∧ AluWords .mulshi .mulshiC 2 14 ∧ AluWords .multuhi .multuhiC 2 15 ∧
  ∀ w : Word, w.toNat / 2 ^ 28 = 2 →
    (w.toNat / 2 ^ 24 % 16 = 8 → decodeWord w = .ok (.fmul (BitVec.ofNat 4 (w.toNat % 8))
      (BitVec.ofNat 4 (w.toNat / 2 ^ 8 % 8)) (BitVec.ofNat 4 (w.toNat / 2 ^ 4 % 8)))) ∧
    (w.toNat / 2 ^ 24 % 16 = 9 → decodeWord w = .ok (.fadd (BitVec.ofNat 4 (w.toNat % 8))
      (BitVec.ofNat 4 (w.toNat / 2 ^ 8 % 8)) (BitVec.ofNat 4 (w.toNat / 2 ^ 4 % 8)))) ∧
    (w.toNat / 2 ^ 24 % 16 = 10 → decodeWord w = .ok (.fsub (BitVec.ofNat 4 (w.toNat % 8))
      (BitVec.ofNat 4 (w.toNat / 2 ^ 8 % 8)) (BitVec.ofNat 4 (w.toNat / 2 ^ 4 % 8)))) ∧
    (w.toNat / 2 ^ 24 % 16 = 11 → decodeWord w = .ok (.fld (BitVec.ofNat 4 (w.toNat % 8))
      (BitVec.ofNat 4 (w.toNat / 2 ^ 8)) (BitVec.ofNat 4 (w.toNat / 2 ^ 4)))) ∧
    (w.toNat / 2 ^ 24 % 16 = 12 → decodeWord w = .ok (.fsthi (BitVec.ofNat 4 w.toNat) (BitVec.ofNat 4 (w.toNat / 2 ^ 8 % 8)))) ∧
    (w.toNat / 2 ^ 24 % 16 = 13 → decodeWord w = .ok (.fstlo (BitVec.ofNat 4 w.toNat) (BitVec.ofNat 4 (w.toNat / 2 ^ 8 % 8))))

/-! ## Reset -/

/-- 70_reset_and_hazards.md R230: after reset `pc` is 0x1E000000, and the first instruction run is the first word of the boot ROM, whatever
bytes of its image the launch gives (none, in `State.reset` itself); the start address is read from nowhere. That every byte there has a
value is the model's choice of a free image (20_memory.md R37, R42, decision D21, log entry 4), and that the lowest address holds bits 7:0 is
decision D1 (20_memory.md R34, log entry 9). -/
def Obligations.ResetStartsAtBootRom : Prop :=
  State.reset.pc = 0x1E000000#32 ∧
  ∀ r : Memory, ∃ b0 b1 b2 b3 : Byte,
    readByte (State.reset.setRom r) 0x1E000000 = some b0 ∧ readByte (State.reset.setRom r) 0x1E000001 = some b1 ∧
    readByte (State.reset.setRom r) 0x1E000002 = some b2 ∧ readByte (State.reset.setRom r) 0x1E000003 = some b3 ∧
    step (State.reset.setRom r) = runWord (b3 ++ b2 ++ b1 ++ b0) (State.reset.setRom r)

/-- 10_state.md R27 (decision D19): what the rule's table says of reset besides `pc`: r0 reads 0, int_disabled is 0, the caches hold no
line. The rows for SDRAM, ROM and the pending interrupts are open, and what is said of them here is THE MODEL'S OWN CHOICE: no byte of SDRAM
has a value (log entry 3), the ROM holds the free `Config.romImage` (log entry 4), no request waits and the environment is free, so that what
it offers first is what `Config.irqEnv` raises on the lines that have a source (log entries 5 and 23). -/
def Obligations.ResetHoldsTheGivenValues : Prop :=
  readReg State.reset 0#4 = 0#32 ∧ State.reset.intDisabled = false ∧ State.reset.storesSinceCcache = [] ∧
  (∀ a, InSdram a → readByte State.reset a = none) ∧
  (∀ a, InRom a → readByte State.reset a = some (Config.romImage (BitVec.ofNat 12 a))) ∧
  State.reset.pending = 0#8 ∧ State.reset.irqEnv = .free ∧ offered State.reset = Config.irqEnv 0 &&& 0x3F#8

/-- THE MODEL'S OWN CHOICE, log entries 1 and 2, not the spec's: the registers 10_state.md R27 leaves unspecified hold 0 at reset, and
int_id holds 1. -/
def Obligations.ResetHoldsTheChosenValues : Prop :=
  (∀ r, readReg State.reset r = 0#32) ∧ (∀ f, readF State.reset f = 0#64) ∧ (∀ i, stackAt State.reset i = 0#32) ∧
  State.reset.sp = 0#8 ∧ State.reset.pcBackup = 0#32 ∧ State.reset.intId = 1#4

/-! ## Whole-machine rules -/

/-- The invariant of Safety.lean is kept by every step, from every state that meets it (20_memory.md R31, R38, R52; 10_state.md R21). -/
def Obligations.StepKeepsInvariant : Prop := ∀ s t : State, Inv s → step s = .next t → Inv t

/-- The state after reset meets the invariant. That int_id is in range there is the model's own choice (log entry 2). -/
def Obligations.ResetMeetsInvariant : Prop := Inv State.reset

/-- 20_memory.md R42, R52 ("ROM cannot be written"), decision D21: no step changes a byte of the ROM. -/
def Obligations.StepNeverChangesRom : Prop :=
  ∀ (s t : State) (a : Nat), step s = .next t → InRom a → readByte t a = readByte s a

/-- 60_exceptions.md R205, R206 (decision D15): interrupts become disabled only where a taken jump or branch enters the handler, for the
lowest requested line. -/
def Obligations.HandlerIsEnteredOnlyByTakenJumps : Prop :=
  ∀ (i : Instr) (s t : State), exec i s = .next t → s.intDisabled = false → t.intDisabled = true →
    takesJump i s ∧ t.pc = 0x00000004#32 ∧ ∃ k, LowestLine (offered s) k ∧ t.intId.toNat = k + 1

/-- 60_exceptions.md R210, 10_state.md R20, R21: only RETI clears int_disabled, and int_id changes only at an interrupt entry. -/
def Obligations.OnlyRetiEnablesInterrupts : Prop :=
  ∀ (i : Instr) (s t : State), exec i s = .next t →
    (s.intDisabled = true → t.intDisabled = false → i = .reti) ∧
    (t.intId ≠ s.intId → s.intDisabled = false ∧ t.intDisabled = true)

/-- 10_state.md R28: an instruction changes no general register but the one its D field names. -/
def Obligations.OnlyTheDestinationRegisterChanges : Prop :=
  ∀ (i : Instr) (s t : State) (r : Reg), exec i s = .next t → destReg i ≠ some r → readReg t r = readReg s r

/-- 10_state.md R23, R28: only FMUL, FADD, FSUB and FLD change an FP64 register, and only the one they name. -/
def Obligations.OnlyFp64InstructionsChangeFp64Registers : Prop :=
  ∀ (i : Instr) (s t : State) (f : FReg), exec i s = .next t →
    (∀ fd, destFReg i = some fd → f.toNat % 8 ≠ fd.toNat % 8) → readF t f = readF s f

/-- 10_state.md R28, 20_memory.md R38, R53: only WRITE, WRITEB and WRITEH change memory, and only they and CCACHE change what the fetch
rule remembers. -/
def Obligations.OnlyStoresChangeMemory : Prop :=
  ∀ (i : Instr) (s t : State), exec i s = .next t → isWrite i = false →
    KeepsMemory s t ∧ (i ≠ .ccache → t.storesSinceCcache = s.storesSinceCcache)

/-- 10_state.md R16, R17, R28: only PUSH writes a stack entry, and only PUSH, POP and a WRITE (to 0x1F000004) change SP. -/
def Obligations.OnlyPushChangesTheStack : Prop :=
  ∀ (i : Instr) (s t : State), exec i s = .next t → (∀ b, i ≠ .push b) →
    (∀ k, stackAt t k = stackAt s k) ∧ ((∀ d, i ≠ .pop d) → (∀ b a c, i ≠ .write b a c) → t.sp = s.sp)

/-! ## The fetch -/

/-- 10_state.md R15, 20_memory.md R33 (decisions D4, D30): a step at a misaligned `pc`, or at one outside SDRAM and ROM, is refused. -/
def Obligations.StepRefusesABadPc : Prop :=
  ∀ s : State,
    (s.pc.toNat % 4 ≠ 0 → step s = .refused .misalignedPc) ∧
    (s.pc.toNat % 4 = 0 → ¬ InSdram s.pc.toNat → ¬ InRom s.pc.toNat → step s = .refused .fetchOutsideInstructionMemory)

/-- 20_memory.md R52: a fetch from SDRAM sees the word's value or one it had before a store since the latest CCACHE, and nothing else;
where all of these are known it completes. That it sees one of them at all, and is not refused, is the model's choice among the two
the rule offers (log entry 7). -/
def Obligations.FetchSeesAHeldValue : Prop :=
  ∀ s : State, InSdram s.pc.toNat →
    (∀ (w : Word) (t : State), fetchWord s = .next (w, t) →
      loadWord s.mem s.pc.toNat = some w ∨ ∃ r ∈ s.storesSinceCcache, r.addr = s.pc.toNat ∧ r.before = some w) ∧
    (s.pc.toNat % 4 = 0 → loadWord s.mem s.pc.toNat ≠ none →
      (∀ r ∈ s.storesSinceCcache, r.addr = s.pc.toNat → r.before ≠ none) → ∃ w t, fetchWord s = .next (w, t))

/-- 20_memory.md R52, R53, 44_misc.md R181 (decision D23): a word stored by WRITE and followed by CCACHE is the word fetched. -/
def Obligations.CcacheMakesStoredCodeFetchable : Prop :=
  ∀ (s t u : State) (b a : Reg) (c : Const16) (target : Word),
    exec (.write b a c) s = .next t → InSdram (addrOf s a c) → exec .ccache t = .next u →
    target.toNat = addrOf s a c / 4 * 4 → fetchWord (u.setPc target) = .next (readReg s b, u.setPc target)

/-! ## Control flow -/

/-- 40_control_flow.md R101: HALT is a taken jump to its own address. -/
def Obligations.HaltIsATakenJumpToItself : Prop :=
  ∀ s : State, ∃ t, exec .halt s = .next t ∧ JumpResult s t s.pc

/-- 40_control_flow.md R101, 70_reset_and_hazards.md R237 (decision D27): a HALT that takes no interrupt leaves the machine as it was. Where
interrupts are enabled only the environment, which is not the machine's, has moved on (log entry 5), and one that never raises anything has not. -/
def Obligations.HaltWithoutInterruptChangesNothing : Prop :=
  ∀ s : State,
    (s.intDisabled = true → exec .halt s = .next s) ∧
    (s.intDisabled = false → offered s = 0#8 →
      ∃ t, exec .halt s = .next t ∧ EnvironmentMovesOn s t ∧ (t.setIrqEnv s.irqEnv).setIrqDraws s.irqDraws = s) ∧
    (s.pending = 0#8 → s.irqEnv = .schedule [] → exec .halt s = .next s)

/-- 40_control_flow.md R102 to R105 (decision D2): the four jumps go to their targets. -/
def Obligations.JumpsGoToTheirTargets : Prop :=
  ∀ (s : State) (n : Const27) (b : Reg) (c : Const16),
    (∃ t, exec (.jump n) s = .next t ∧ JumpResult s t (BitVec.ofNat 32 n.toNat)) ∧
    (∃ t, exec (.jumpo n) s = .next t ∧ JumpResult s t (BitVec.ofNat 32 (s.pc.toNat + n.toNat))) ∧
    (∃ t, exec (.jumpr b c) s = .next t ∧ JumpResult s t (BitVec.ofInt 32 ((readReg s b).toInt + c.toInt))) ∧
    (∃ t, exec (.jumpro b c) s = .next t ∧ JumpResult s t (BitVec.ofInt 32 (s.pc.toInt + (readReg s b).toInt + c.toInt)))

/-- 40_control_flow.md R106 to R116 (decision D2): the ten branches jump where their condition holds and go on where it does not. -/
def Obligations.BranchesFollowTheirConditions : Prop :=
  BranchEffect .beq (fun x y => x = y) ∧ BranchEffect .bne (fun x y => x ≠ y) ∧
  BranchEffect .bgt (fun x y => x.toNat > y.toNat) ∧ BranchEffect .bge (fun x y => x.toNat ≥ y.toNat) ∧
  BranchEffect .blt (fun x y => x.toNat < y.toNat) ∧ BranchEffect .ble (fun x y => x.toNat ≤ y.toNat) ∧
  BranchEffect .bgts (fun x y => x.toInt > y.toInt) ∧ BranchEffect .bges (fun x y => x.toInt ≥ y.toInt) ∧
  BranchEffect .blts (fun x y => x.toInt < y.toInt) ∧ BranchEffect .bles (fun x y => x.toInt ≤ y.toInt)

/-- 40_control_flow.md R117: SAVPC's words (its x bits 0), and that it writes its own address and goes on. -/
def Obligations.SavpcWritesItsOwnAddress : Prop :=
  (∀ w : Word, w.toNat / 2 ^ 28 = 5 → w.toNat / 2 ^ 4 % 2 ^ 24 = 0 → decodeWord w = .ok (.savpc (BitVec.ofNat 4 w.toNat))) ∧
  ∀ (s : State) (d : Reg), ∃ t, exec (.savpc d) s = .next t ∧ RegResult s t d s.pc

/-- 40_control_flow.md R118, 60_exceptions.md R209 (decision D15): RETI goes to PC_backup, enables interrupts, takes none, and changes
nothing else. -/
def Obligations.RetiReturnsToPcBackup : Prop :=
  ∀ s : State, ∃ t, exec .reti s = .next t ∧ t.pc = s.pcBackup ∧ t.intDisabled = false ∧ t.pcBackup = s.pcBackup ∧
    t.intId = s.intId ∧ KeepsRequests s t ∧ KeepsRegs s t ∧ KeepsFRegs s t ∧ KeepsStack s t ∧
    KeepsFetch s t ∧ KeepsDevices s t ∧ KeepsMemory s t

/-- 60_exceptions.md R205 to R211, 44_misc.md R180 (decisions D16, D17): an interrupted JUMP, INTID in the handler, RETI: the program
goes on at the jump's target, the number read is the line plus one, the other requests stay outstanding. -/
def Obligations.InterruptedJumpResumesAtItsTarget : Prop :=
  ∀ (s t u v : State) (n : Const27) (d : Reg) (k : Nat),
    s.intDisabled = false → LowestLine (offered s) k →
    exec (.jump n) s = .next t → exec (.intid d) t = .next u → exec .reti u = .next v →
    t.pc = 0x00000004#32 ∧ v.pc = BitVec.ofNat 32 n.toNat ∧ v.intDisabled = false ∧
    (∀ r, readReg v r = if r = d ∧ d ≠ 0#4 then BitVec.ofNat 32 (k + 1) else readReg s r) ∧
    (∀ j, j < 8 → v.pending.getLsbD j = ((offered s).getLsbD j && j != k)) ∧ KeepsMemory s v

/-! ## Memory access -/

/-- 41_memory_access.md R120, R121, 20_memory.md R34, R35, R37, R42 (decisions D1, D22): READ of SDRAM or ROM gives the aligned word, byte
0 lowest. -/
def Obligations.ReadLoadsTheAlignedWord : Prop :=
  ∀ (s : State) (d a : Reg) (c : Const16) (b0 b1 b2 b3 : Byte),
    InSdram (addrOf s a c) ∨ InRom (addrOf s a c) →
    readByte s (addrOf s a c / 4 * 4) = some b0 → readByte s (addrOf s a c / 4 * 4 + 1) = some b1 →
    readByte s (addrOf s a c / 4 * 4 + 2) = some b2 → readByte s (addrOf s a c / 4 * 4 + 3) = some b3 →
    ∃ t, exec (.read d a c) s = .next t ∧ RegResult s t d (b3 ++ b2 ++ b1 ++ b0)

/-- 41_memory_access.md R122 to R125, 20_memory.md R34, R35, R39 (decision D1): the byte and halfword READs of SDRAM, sign- or
zero-extended. -/
def Obligations.SubWordReadsExtend : Prop :=
  ∀ (s : State) (d a : Reg) (c : Const16), InSdram (addrOf s a c) →
    (∀ b : Byte, readByte s (addrOf s a c) = some b →
      (∃ t, exec (.readb d a c) s = .next t ∧ RegResult s t d (BitVec.ofInt 32 b.toInt)) ∧
      (∃ t, exec (.readbu d a c) s = .next t ∧ RegResult s t d (BitVec.ofNat 32 b.toNat))) ∧
    (∀ b0 b1 : Byte, readByte s (addrOf s a c / 2 * 2) = some b0 → readByte s (addrOf s a c / 2 * 2 + 1) = some b1 →
      (∃ t, exec (.readh d a c) s = .next t ∧ RegResult s t d (BitVec.ofInt 32 (b1 ++ b0).toInt)) ∧
      (∃ t, exec (.readhu d a c) s = .next t ∧ RegResult s t d (BitVec.ofNat 32 (b1 ++ b0).toNat)))

/-- 41_memory_access.md R126, 20_memory.md R34, R35, R38 (decision D1): WRITE to SDRAM stores the register's four bytes at the aligned
address, lowest first, and changes no other byte. -/
def Obligations.WriteStoresTheAlignedWord : Prop :=
  ∀ (s : State) (b a : Reg) (c : Const16), InSdram (addrOf s a c) →
    ∃ t, exec (.write b a c) s = .next t ∧
      StoreResult s t (addrOf s a c / 4 * 4)
        [BitVec.ofNat 8 (readReg s b).toNat, BitVec.ofNat 8 ((readReg s b).toNat / 2 ^ 8),
          BitVec.ofNat 8 ((readReg s b).toNat / 2 ^ 16), BitVec.ofNat 8 ((readReg s b).toNat / 2 ^ 24)]

/-- 41_memory_access.md R127, R128, 20_memory.md R34, R35, R38, R39 (decision D1): WRITEB and WRITEH to SDRAM store the register's low
byte and low two bytes and change no other byte. -/
def Obligations.SubWordWritesStoreTheLowBytes : Prop :=
  ∀ (s : State) (b a : Reg) (c : Const16), InSdram (addrOf s a c) →
    (∃ t, exec (.writeb b a c) s = .next t ∧ StoreResult s t (addrOf s a c) [BitVec.ofNat 8 (readReg s b).toNat]) ∧
    (∃ t, exec (.writeh b a c) s = .next t ∧
      StoreResult s t (addrOf s a c / 2 * 2)
        [BitVec.ofNat 8 (readReg s b).toNat, BitVec.ofNat 8 ((readReg s b).toNat / 2 ^ 8)])

/-- 10_state.md R18, R19, 20_memory.md R44 (decision D20): word READ and WRITE of PC_backup (0x1F000000 to 3) and SP (0x1F000004 to 7). -/
def Obligations.InternalRegistersAreReadAndWrittenAsWords : Prop :=
  ∀ (s : State) (d b a : Reg) (c : Const16),
    (addrOf s a c / 4 = 0x1F000000 / 4 → ∃ t, exec (.read d a c) s = .next t ∧ RegResult s t d s.pcBackup) ∧
    (addrOf s a c / 4 = 0x1F000004 / 4 → ∃ t, exec (.read d a c) s = .next t ∧ RegResult s t d (BitVec.ofNat 32 s.sp.toNat)) ∧
    (addrOf s a c / 4 = 0x1F000000 / 4 →
      ∃ t, exec (.write b a c) s = .next t ∧ t.pcBackup = readReg s b ∧ t.pc = s.pc + 4#32 ∧ t.intDisabled = s.intDisabled ∧
        t.intId = s.intId ∧ KeepsRequests s t ∧ KeepsRegs s t ∧ KeepsFRegs s t ∧ KeepsStack s t ∧
        KeepsFetch s t ∧ KeepsDevices s t ∧ KeepsMemory s t) ∧
    (addrOf s a c / 4 = 0x1F000004 / 4 →
      ∃ t, exec (.write b a c) s = .next t ∧ t.sp = BitVec.ofNat 8 (readReg s b).toNat ∧ t.pc = s.pc + 4#32 ∧
        (∀ i, stackAt t i = stackAt s i) ∧ KeepsInterrupts s t ∧ KeepsRegs s t ∧ KeepsFRegs s t ∧ KeepsFetch s t ∧
        KeepsDevices s t ∧ KeepsMemory s t)

/-- 20_memory.md R43, R49, R55 (decision D21): a word READ or WRITE of I/O or VRAM reaches the device exactly once, in order, at the
aligned address; the READ's result is the device's answer, a free value (log entry 6). -/
def Obligations.DeviceAccessesHappenOnceInOrder : Prop :=
  ∀ (s : State) (d b a : Reg) (c : Const16), InDevice (addrOf s a c) →
    (∃ t, exec (.read d a c) s = .next t ∧ t.deviceLog = .read (addrOf s a c / 4 * 4) :: s.deviceLog ∧
      (∀ r, readReg t r = if r = d ∧ d ≠ 0#4 then Config.deviceRead s.deviceLog (addrOf s a c / 4 * 4) else readReg s r) ∧
      t.pc = s.pc + 4#32 ∧ KeepsFRegs s t ∧ KeepsStack s t ∧ KeepsInterrupts s t ∧ KeepsFetch s t ∧ KeepsMemory s t) ∧
    (∃ t, exec (.write b a c) s = .next t ∧
      t.deviceLog = .write (addrOf s a c / 4 * 4) (readReg s b) :: s.deviceLog ∧
      t.pc = s.pc + 4#32 ∧ KeepsRegs s t ∧ KeepsFRegs s t ∧ KeepsStack s t ∧ KeepsInterrupts s t ∧ KeepsFetch s t ∧
      KeepsMemory s t)

/-- 20_memory.md R35: the low address bits of word and halfword accesses are ignored, in every region and also where the access stops. -/
def Obligations.LowAddressBitsAreIgnored : Prop :=
  ∀ (s : State) (d b a : Reg) (c c' : Const16),
    (addrOf s a c / 4 = addrOf s a c' / 4 →
      exec (.read d a c) s = exec (.read d a c') s ∧ exec (.write b a c) s = exec (.write b a c') s) ∧
    (addrOf s a c / 2 = addrOf s a c' / 2 →
      exec (.readh d a c) s = exec (.readh d a c') s ∧ exec (.readhu d a c) s = exec (.readhu d a c') s ∧
      exec (.writeh b a c) s = exec (.writeh b a c') s)

/-- 20_memory.md R45, R46 (decision D21): every READ and WRITE of an unmapped address stops, by name. -/
def Obligations.UnmappedAccessesStop : Prop :=
  ∀ (s : State) (d b a : Reg) (c : Const16), IsUnmapped (addrOf s a c) →
    exec (.read d a c) s = .fault .unmappedAddress ∧ exec (.readb d a c) s = .fault .unmappedAddress ∧
    exec (.readbu d a c) s = .fault .unmappedAddress ∧ exec (.readh d a c) s = .fault .unmappedAddress ∧
    exec (.readhu d a c) s = .fault .unmappedAddress ∧ exec (.write b a c) s = .fault .unmappedAddress ∧
    exec (.writeb b a c) s = .fault .unmappedAddress ∧ exec (.writeh b a c) s = .fault .unmappedAddress

/-- 20_memory.md R42 to R44, 10_state.md R18 (decisions D20, D21, D22): WRITEs to ROM, and the sub-word accesses outside SDRAM, are
refused by name. -/
def Obligations.RomWritesAndSubWordAccessesAreRefused : Prop :=
  ∀ (s : State) (d b a : Reg) (c : Const16),
    (InRom (addrOf s a c) →
      exec (.write b a c) s = .refused .writeToRom ∧ exec (.writeb b a c) s = .refused .writeToRom ∧
      exec (.writeh b a c) s = .refused .writeToRom) ∧
    (InRom (addrOf s a c) ∨ InDevice (addrOf s a c) →
      exec (.readb d a c) s = .refused .subWordOutsideSdram ∧ exec (.readbu d a c) s = .refused .subWordOutsideSdram ∧
      exec (.readh d a c) s = .refused .subWordOutsideSdram ∧ exec (.readhu d a c) s = .refused .subWordOutsideSdram) ∧
    (InDevice (addrOf s a c) →
      exec (.writeb b a c) s = .refused .subWordOutsideSdram ∧ exec (.writeh b a c) s = .refused .subWordOutsideSdram) ∧
    (InInternal (addrOf s a c) →
      exec (.readb d a c) s = .refused .subWordInternalIo ∧ exec (.readbu d a c) s = .refused .subWordInternalIo ∧
      exec (.readh d a c) s = .refused .subWordInternalIo ∧ exec (.readhu d a c) s = .refused .subWordInternalIo ∧
      exec (.writeb b a c) s = .refused .subWordInternalIo ∧ exec (.writeh b a c) s = .refused .subWordInternalIo)

/-- 20_memory.md R37, 10_state.md R27 (decision D19): a READ of an SDRAM byte that has no value stops, by name. -/
def Obligations.ReadsOfUnwrittenMemoryStop : Prop :=
  ∀ (s : State) (d a : Reg) (c : Const16),
    (InSdram (addrOf s a c) → (∃ k, k < 4 ∧ readByte s (addrOf s a c / 4 * 4 + k) = none) →
      exec (.read d a c) s = .fault .unwrittenMemory) ∧
    (InSdram (addrOf s a c) → (∃ k, k < 2 ∧ readByte s (addrOf s a c / 2 * 2 + k) = none) →
      exec (.readh d a c) s = .fault .unwrittenMemory ∧ exec (.readhu d a c) s = .fault .unwrittenMemory) ∧
    (InSdram (addrOf s a c) → readByte s (addrOf s a c) = none →
      exec (.readb d a c) s = .fault .unwrittenMemory ∧ exec (.readbu d a c) s = .fault .unwrittenMemory)

/-- 20_memory.md R40 (decision D1): after a WRITE to SDRAM, READBU of its four bytes and READHU of its two halves give the register's
bytes and halves, lowest address lowest. -/
def Obligations.MixedWidthReadsAfterAWrite : Prop :=
  ∀ (s t : State) (b a : Reg) (c : Const16), InSdram (addrOf s a c) → exec (.write b a c) s = .next t →
    ∀ (d e : Reg) (c' : Const16) (k : Nat),
      (k < 4 → addrOf t e c' = addrOf s a c / 4 * 4 + k →
        ∃ u, exec (.readbu d e c') t = .next u ∧ RegResult t u d (BitVec.ofNat 32 ((readReg s b).toNat / 2 ^ (8 * k) % 2 ^ 8))) ∧
      (k < 2 → addrOf t e c' = addrOf s a c / 4 * 4 + 2 * k →
        ∃ u, exec (.readhu d e c') t = .next u ∧ RegResult t u d (BitVec.ofNat 32 ((readReg s b).toNat / 2 ^ (16 * k) % 2 ^ 16)))

/-- 41_memory_access.md R129: PUSH's words (their x bits 0); it stores the register at STACK[SP], counts SP up modulo 256, and touches
neither a general register nor the address space. -/
def Obligations.PushStoresAndCountsUp : Prop :=
  (∀ w : Word, w.toNat / 2 ^ 28 = 11 → w.toNat / 2 ^ 8 % 2 ^ 20 = 0 → w.toNat % 2 ^ 4 = 0 →
    decodeWord w = .ok (.push (BitVec.ofNat 4 (w.toNat / 2 ^ 4)))) ∧
  ∀ (s : State) (b : Reg), ∃ t, exec (.push b) s = .next t ∧
    (∀ i, stackAt t i = if i = s.sp then readReg s b else stackAt s i) ∧ t.sp.toNat = (s.sp.toNat + 1) % 256 ∧
    t.pc = s.pc + 4#32 ∧ KeepsRegs s t ∧ KeepsFRegs s t ∧ KeepsInterrupts s t ∧ KeepsFetch s t ∧ KeepsDevices s t ∧
    KeepsMemory s t

/-- 41_memory_access.md R130 (decision D31): POP counts SP down modulo 256 and loads the entry it then names, erasing nothing. -/
def Obligations.PopCountsDownAndLoads : Prop :=
  ∀ (s : State) (d : Reg), ∃ t, exec (.pop d) s = .next t ∧ t.sp.toNat = (s.sp.toNat + 255) % 256 ∧
    (∀ r, readReg t r = if r = d ∧ d ≠ 0#4 then stackAt s t.sp else readReg s r) ∧ (∀ i, stackAt t i = stackAt s i) ∧
    t.pc = s.pc + 4#32 ∧ KeepsFRegs s t ∧ KeepsInterrupts s t ∧ KeepsFetch s t ∧ KeepsDevices s t ∧ KeepsMemory s t

/-- 10_state.md R17, 41_memory_access.md R129, R130 (decision D31): PUSH then POP moves the value between registers and restores SP, from
every SP, the wrap at 255 included. -/
def Obligations.PushThenPopMovesTheValue : Prop :=
  ∀ (s t u : State) (b d : Reg), exec (.push b) s = .next t → exec (.pop d) t = .next u →
    u.sp = s.sp ∧ (∀ r, readReg u r = if r = d ∧ d ≠ 0#4 then readReg s b else readReg s r) ∧
    (∀ i, i ≠ s.sp → stackAt u i = stackAt s i) ∧ KeepsMemory s u

/-! ## Miscellaneous -/

/-- 44_misc.md R180 (decision D17): INTID gives int_id, zero-extended, and changes nothing else. -/
def Obligations.IntidReadsTheInterruptNumber : Prop :=
  ∀ (s : State) (d : Reg), ∃ t, exec (.intid d) s = .next t ∧ RegResult s t d (BitVec.ofNat 32 s.intId.toNat)

/-- 44_misc.md R181, 20_memory.md R53 (decision D23): after CCACHE no word counts as written since the latest CCACHE; no register and no
byte changes. -/
def Obligations.CcacheEmptiesTheCaches : Prop :=
  ∀ s : State, ∃ t, exec .ccache s = .next t ∧ t.storesSinceCcache = [] ∧ t.raceCount = s.raceCount ∧ t.pc = s.pc + 4#32 ∧
    KeepsRegs s t ∧ KeepsFRegs s t ∧ KeepsStack s t ∧ KeepsInterrupts s t ∧ KeepsDevices s t ∧ KeepsMemory s t

/-! ## Single-cycle arithmetic -/

/-- 42_arith_single.md R141, R142, R143, R148: the bitwise operations, bit by bit, and their words (x bits 0). -/
def Obligations.BitwiseOperations : Prop :=
  (AluCanonicalWords .or .orC 0 0 ∧
    AluEffect .or .orC (fun x y v => ∀ i, i < 32 → v.getLsbD i = (x.getLsbD i || y.getLsbD i))) ∧
  (AluCanonicalWords .and .andC 0 1 ∧
    AluEffect .and .andC (fun x y v => ∀ i, i < 32 → v.getLsbD i = (x.getLsbD i && y.getLsbD i))) ∧
  (AluCanonicalWords .xor .xorC 0 2 ∧
    AluEffect .xor .xorC (fun x y v => ∀ i, i < 32 → v.getLsbD i = (x.getLsbD i != y.getLsbD i))) ∧
  (AluCanonicalWords .not .notC 0 7 ∧
    AluEffect .not .notC (fun x _ v => ∀ i, i < 32 → v.getLsbD i = !(x.getLsbD i)))

/-- 42_arith_single.md R144, R145: ADD and SUB modulo 2^32, and their words (x bits 0). -/
def Obligations.AddAndSubWrap : Prop :=
  (AluCanonicalWords .add .addC 0 3 ∧ AluEffect .add .addC (fun x y v => v.toNat = (x.toNat + y.toNat) % 2 ^ 32)) ∧
  (AluCanonicalWords .sub .subC 0 4 ∧ AluEffect .sub .subC (fun x y v => (v.toNat : Int) = ((x.toNat : Int) - y.toNat) % 2 ^ 32))

/-- 42_arith_single.md R146, R147, R153 (decision D7): the shifts by the whole of B as an unsigned number. -/
def Obligations.ShiftsByTheWholeAmount : Prop :=
  AluEffect .shiftl .shiftlC (fun x y v => v.toNat = x.toNat * 2 ^ y.toNat % 2 ^ 32) ∧
  AluEffect .shiftr .shiftrC (fun x y v => v.toNat = x.toNat / 2 ^ y.toNat) ∧
  AluEffect .shiftrs .shiftrsC (fun x y v => v.toInt = x.toInt / 2 ^ y.toNat)

/-- 42_arith_single.md R149, R150: SLT and SLTU, and their words (x bits 0). -/
def Obligations.SetIfLess : Prop :=
  (AluCanonicalWords .slt .sltC 0 10 ∧ AluEffect .slt .sltC (fun x y v => v.toNat = if x.toInt < y.toInt then 1 else 0)) ∧
  (AluCanonicalWords .sltu .sltuC 0 11 ∧ AluEffect .sltu .sltuC (fun x y v => v.toNat = if x.toNat < y.toNat then 1 else 0))

/-- 42_arith_single.md R151, R152 (90_conflicts.md C10, decision D14): LOAD gives B, LOADHI puts B's low half above A's. -/
def Obligations.LoadAndLoadhi : Prop :=
  AluEffect .load .loadC (fun _ y v => v = y) ∧
  AluEffect .loadhi .loadhiC (fun x y v => v.toNat = y.toNat % 2 ^ 16 * 2 ^ 16 + x.toNat % 2 ^ 16)

/-- 42_arith_single.md R152, 30_encoding.md R87: LOAD with the low half and then LOADHI with the high half build any 32-bit constant. -/
def Obligations.LoadThenLoadhiBuildsAnyConstant : Prop :=
  ∀ (s t u : State) (d a : Reg) (lo hi : Const16), d ≠ 0#4 →
    exec (.loadC d a lo) s = .next t → exec (.loadhiC d d hi) t = .next u →
    readReg u d = hi ++ lo ∧ ∀ r, r ≠ d → readReg u r = readReg s r

/-! ## Multi-cycle arithmetic -/

/-- 43_arith_multi.md R161, R162, R169, R170: MULTU, MULSHI and MULTUHI as slices of the 64-bit product, and their words (x bits 0); MULTS
gives what MULTU gives (R161, which the spec derives), and it is the low half of the product whose high half MULSHI gives. -/
def Obligations.ProductsUnsignedAndHighHalf : Prop :=
  (AluCanonicalWords .multu .multuC 2 1 ∧
    AluEffect .multu .multuC (fun x y v => v.toNat = x.toNat * y.toNat % 2 ^ 32)) ∧
  AluEffect .mults .multsC (fun x y v =>
    v.toNat = x.toNat * y.toNat % 2 ^ 32 ∧ v = (BitVec.ofInt 64 (x.toInt * y.toInt)).extractLsb' 0 32) ∧
  (AluCanonicalWords .mulshi .mulshiC 2 14 ∧
    AluEffect .mulshi .mulshiC (fun x y v => v = (BitVec.ofInt 64 (x.toInt * y.toInt)).extractLsb' 32 32)) ∧
  (AluCanonicalWords .multuhi .multuhiC 2 15 ∧
    AluEffect .multuhi .multuhiC (fun x y v => v = (BitVec.ofNat 64 (x.toNat * y.toNat)).extractLsb' 32 32))

/-- 43_arith_multi.md R161, R163 (decision D10): MULTS is the low half of the signed product, MULTFP its bits 47:16. -/
def Obligations.ProductsSignedAndFixedPoint : Prop :=
  AluEffect .mults .multsC (fun x y v => v = (BitVec.ofInt 64 (x.toInt * y.toInt)).extractLsb' 0 32) ∧
  AluEffect .multfp .multfpC (fun x y v => v = (BitVec.ofInt 64 (x.toInt * y.toInt)).extractLsb' 16 32)

/-- 43_arith_multi.md R165, R168, R171: DIVU and MODU, and their words (x bits 0). By zero the result is a free value, as the spec leaves it
open (log entry 8, decision D9). -/
def Obligations.UnsignedDivision : Prop :=
  (AluCanonicalWords .divu .divuC 2 4 ∧
    AluEffect .divu .divuC (fun x y v => if y = 0#32 then v = Config.div0 .divu x else v.toNat = x.toNat / y.toNat)) ∧
  (AluCanonicalWords .modu .moduC 2 7 ∧
    AluEffect .modu .moduC (fun x y v => if y = 0#32 then v = Config.div0 .modu x else v.toNat = x.toNat % y.toNat))

/-- 43_arith_multi.md R164, R167, R171 (decision D8): DIVS and MODS truncate toward zero; by zero, and where the quotient is 2^31, the
result is a free value (log entry 8). -/
def Obligations.SignedDivisionTruncates : Prop :=
  AluEffect .divs .divsC (fun x y v =>
    if y = 0#32 then v = Config.div0 .divs x
    else if x = 0x80000000#32 ∧ y = 0xFFFFFFFF#32 then v = Config.divOvf .divs x y
    else ∃ r, IsTruncated x.toInt y.toInt v.toInt r) ∧
  AluEffect .mods .modsC (fun x y v =>
    if y = 0#32 then v = Config.div0 .mods x
    else if x = 0x80000000#32 ∧ y = 0xFFFFFFFF#32 then v = Config.divOvf .mods x y
    else ∃ q, IsTruncated x.toInt y.toInt q v.toInt)

/-- 43_arith_multi.md R166, R171 (decision D10): DIVFP is the truncated quotient of A * 2^16 where that fits 32 signed bits; by zero, and
where it does not fit, the result is a free value (log entry 8). -/
def Obligations.FixedPointDivision : Prop :=
  AluEffect .divfp .divfpC (fun x y v =>
    if y = 0#32 then v = Config.div0 .divfp x
    else ∃ q r, IsTruncated (x.toInt * 2 ^ 16) y.toInt q r ∧
      if -(2 ^ 31) ≤ q ∧ q ≤ 2 ^ 31 - 1 then v.toInt = q else v = Config.divOvf .divfp x y)

/-! ## FP64 -/

/-- 45_fp64.md R186 (decision D11): FMUL gives bits 95:32 of the signed 128-bit product. -/
def Obligations.FmulTakesTheMiddleOfTheProduct : Prop :=
  ∀ (s : State) (fd fa fb : FReg), ∃ t, exec (.fmul fd fa fb) s = .next t ∧
    FRegResult s t fd ((BitVec.ofInt 128 ((readF s fa).toInt * (readF s fb).toInt)).extractLsb' 32 64)

/-- 45_fp64.md R187, R188: FADD and FSUB modulo 2^64, and their words (x bits and bit 3 of each field 0). That they write no general
register is decision D12 (R185, log entry 21). -/
def Obligations.FaddAndFsubWrap : Prop :=
  (∀ w : Word, w.toNat / 2 ^ 28 = 2 → w.toNat / 2 ^ 12 % 2 ^ 12 = 0 →
    w.toNat / 2 ^ 8 % 16 < 8 → w.toNat / 2 ^ 4 % 16 < 8 → w.toNat % 16 < 8 →
    (w.toNat / 2 ^ 24 % 16 = 9 → decodeWord w = .ok (.fadd (BitVec.ofNat 4 w.toNat)
      (BitVec.ofNat 4 (w.toNat / 2 ^ 8)) (BitVec.ofNat 4 (w.toNat / 2 ^ 4)))) ∧
    (w.toNat / 2 ^ 24 % 16 = 10 → decodeWord w = .ok (.fsub (BitVec.ofNat 4 w.toNat)
      (BitVec.ofNat 4 (w.toNat / 2 ^ 8)) (BitVec.ofNat 4 (w.toNat / 2 ^ 4))))) ∧
  ∀ (s : State) (fd fa fb : FReg),
    (∃ t v, exec (.fadd fd fa fb) s = .next t ∧ FRegResult s t fd v ∧
      v.toNat = ((readF s fa).toNat + (readF s fb).toNat) % 2 ^ 64) ∧
    (∃ t v, exec (.fsub fd fa fb) s = .next t ∧ FRegResult s t fd v ∧
      (v.toNat : Int) = (((readF s fa).toNat : Int) - (readF s fb).toNat) % 2 ^ 64)

/-- 45_fp64.md R189, R190, R191: FLD joins two general registers, FSTHI and FSTLO give the two halves back, and their words (x bits and bit 3
of each FP64 field 0). That FLD writes no general register, and FSTHI and FSTLO no FP64 register, is decision D12 (R185, log entry 21). -/
def Obligations.Fp64Moves : Prop :=
  (∀ w : Word, w.toNat / 2 ^ 28 = 2 → w.toNat / 2 ^ 12 % 2 ^ 12 = 0 →
    (w.toNat / 2 ^ 24 % 16 = 11 → w.toNat % 16 < 8 → decodeWord w = .ok (.fld (BitVec.ofNat 4 w.toNat)
      (BitVec.ofNat 4 (w.toNat / 2 ^ 8)) (BitVec.ofNat 4 (w.toNat / 2 ^ 4)))) ∧
    (w.toNat / 2 ^ 24 % 16 = 12 → w.toNat / 2 ^ 8 % 16 < 8 → w.toNat / 2 ^ 4 % 16 = 0 →
      decodeWord w = .ok (.fsthi (BitVec.ofNat 4 w.toNat) (BitVec.ofNat 4 (w.toNat / 2 ^ 8)))) ∧
    (w.toNat / 2 ^ 24 % 16 = 13 → w.toNat / 2 ^ 8 % 16 < 8 → w.toNat / 2 ^ 4 % 16 = 0 →
      decodeWord w = .ok (.fstlo (BitVec.ofNat 4 w.toNat) (BitVec.ofNat 4 (w.toNat / 2 ^ 8))))) ∧
  ∀ (s : State) (fd fa : FReg) (d a b : Reg),
    (∃ t v, exec (.fld fd a b) s = .next t ∧ FRegResult s t fd v ∧
      v.toNat = (readReg s a).toNat * 2 ^ 32 + (readReg s b).toNat) ∧
    (∃ t v, exec (.fsthi d fa) s = .next t ∧ RegResult s t d v ∧ v.toNat = (readF s fa).toNat / 2 ^ 32) ∧
    (∃ t v, exec (.fstlo d fa) s = .next t ∧ RegResult s t d v ∧ v.toNat = (readF s fa).toNat % 2 ^ 32)

/-! ## The boot ROM -/

/-- 20_memory.md R37, R42, 41_memory_access.md R121 (decisions D1, D21): a READ of the ROM completes from every state with the word of
`ROM_IMAGE` there, byte 0 lowest. A byte the launch does not give is the free `Config.romImage` (log entry 4). -/
def Obligations.RomReadsGiveTheImage : Prop :=
  ∀ (s : State) (d a : Reg) (c : Const16), InRom (addrOf s a c) →
    ∃ b0 b1 b2 b3 : Byte,
      readByte s (addrOf s a c / 4 * 4) = some b0 ∧ readByte s (addrOf s a c / 4 * 4 + 1) = some b1 ∧
      readByte s (addrOf s a c / 4 * 4 + 2) = some b2 ∧ readByte s (addrOf s a c / 4 * 4 + 3) = some b3 ∧
      (s.rom = [] → ∀ k, k < 4 →
        readByte s (addrOf s a c / 4 * 4 + k) = some (Config.romImage (BitVec.ofNat 12 (addrOf s a c / 4 * 4 + k)))) ∧
      ∃ t, exec (.read d a c) s = .next t ∧ RegResult s t d (b3 ++ b2 ++ b1 ++ b0)
end

