-- ==== Sys2Proof/Laws/State.lean ====
section
/-! SUPPORT. What each update of State leaves in each field, so that no proof unfolds a record update. -/

namespace Sys2Proof.Machine

/-! ### setGpr -/

@[simp] theorem State.setGpr_gpr (s : State) (v : Vector Word 15) : (s.setGpr v).gpr = v := rfl
@[simp] theorem State.setGpr_pc (s : State) (v : Vector Word 15) : (s.setGpr v).pc = s.pc := rfl
@[simp] theorem State.setGpr_stack (s : State) (v : Vector Word 15) : (s.setGpr v).stack = s.stack := rfl
@[simp] theorem State.setGpr_sp (s : State) (v : Vector Word 15) : (s.setGpr v).sp = s.sp := rfl
@[simp] theorem State.setGpr_pcBackup (s : State) (v : Vector Word 15) : (s.setGpr v).pcBackup = s.pcBackup := rfl
@[simp] theorem State.setGpr_intDisabled (s : State) (v : Vector Word 15) : (s.setGpr v).intDisabled = s.intDisabled := rfl
@[simp] theorem State.setGpr_intId (s : State) (v : Vector Word 15) : (s.setGpr v).intId = s.intId := rfl
@[simp] theorem State.setGpr_fpr (s : State) (v : Vector Word 15) : (s.setGpr v).fpr = s.fpr := rfl
@[simp] theorem State.setGpr_mem (s : State) (v : Vector Word 15) : (s.setGpr v).mem = s.mem := rfl
@[simp] theorem State.setGpr_rom (s : State) (v : Vector Word 15) : (s.setGpr v).rom = s.rom := rfl
@[simp] theorem State.setGpr_pending (s : State) (v : Vector Word 15) : (s.setGpr v).pending = s.pending := rfl
@[simp] theorem State.setGpr_irqEnv (s : State) (v : Vector Word 15) : (s.setGpr v).irqEnv = s.irqEnv := rfl
@[simp] theorem State.setGpr_irqDraws (s : State) (v : Vector Word 15) : (s.setGpr v).irqDraws = s.irqDraws := rfl
@[simp] theorem State.setGpr_storesSinceCcache (s : State) (v : Vector Word 15) : (s.setGpr v).storesSinceCcache = s.storesSinceCcache := rfl
@[simp] theorem State.setGpr_deviceLog (s : State) (v : Vector Word 15) : (s.setGpr v).deviceLog = s.deviceLog := rfl
@[simp] theorem State.setGpr_raceCount (s : State) (v : Vector Word 15) : (s.setGpr v).raceCount = s.raceCount := rfl

/-! ### setPc -/

@[simp] theorem State.setPc_gpr (s : State) (v : Word) : (s.setPc v).gpr = s.gpr := rfl
@[simp] theorem State.setPc_pc (s : State) (v : Word) : (s.setPc v).pc = v := rfl
@[simp] theorem State.setPc_stack (s : State) (v : Word) : (s.setPc v).stack = s.stack := rfl
@[simp] theorem State.setPc_sp (s : State) (v : Word) : (s.setPc v).sp = s.sp := rfl
@[simp] theorem State.setPc_pcBackup (s : State) (v : Word) : (s.setPc v).pcBackup = s.pcBackup := rfl
@[simp] theorem State.setPc_intDisabled (s : State) (v : Word) : (s.setPc v).intDisabled = s.intDisabled := rfl
@[simp] theorem State.setPc_intId (s : State) (v : Word) : (s.setPc v).intId = s.intId := rfl
@[simp] theorem State.setPc_fpr (s : State) (v : Word) : (s.setPc v).fpr = s.fpr := rfl
@[simp] theorem State.setPc_mem (s : State) (v : Word) : (s.setPc v).mem = s.mem := rfl
@[simp] theorem State.setPc_rom (s : State) (v : Word) : (s.setPc v).rom = s.rom := rfl
@[simp] theorem State.setPc_pending (s : State) (v : Word) : (s.setPc v).pending = s.pending := rfl
@[simp] theorem State.setPc_irqEnv (s : State) (v : Word) : (s.setPc v).irqEnv = s.irqEnv := rfl
@[simp] theorem State.setPc_irqDraws (s : State) (v : Word) : (s.setPc v).irqDraws = s.irqDraws := rfl
@[simp] theorem State.setPc_storesSinceCcache (s : State) (v : Word) : (s.setPc v).storesSinceCcache = s.storesSinceCcache := rfl
@[simp] theorem State.setPc_deviceLog (s : State) (v : Word) : (s.setPc v).deviceLog = s.deviceLog := rfl
@[simp] theorem State.setPc_raceCount (s : State) (v : Word) : (s.setPc v).raceCount = s.raceCount := rfl

/-! ### setStack -/

@[simp] theorem State.setStack_gpr (s : State) (v : Vector Word 256) : (s.setStack v).gpr = s.gpr := rfl
@[simp] theorem State.setStack_pc (s : State) (v : Vector Word 256) : (s.setStack v).pc = s.pc := rfl
@[simp] theorem State.setStack_stack (s : State) (v : Vector Word 256) : (s.setStack v).stack = v := rfl
@[simp] theorem State.setStack_sp (s : State) (v : Vector Word 256) : (s.setStack v).sp = s.sp := rfl
@[simp] theorem State.setStack_pcBackup (s : State) (v : Vector Word 256) : (s.setStack v).pcBackup = s.pcBackup := rfl
@[simp] theorem State.setStack_intDisabled (s : State) (v : Vector Word 256) : (s.setStack v).intDisabled = s.intDisabled := rfl
@[simp] theorem State.setStack_intId (s : State) (v : Vector Word 256) : (s.setStack v).intId = s.intId := rfl
@[simp] theorem State.setStack_fpr (s : State) (v : Vector Word 256) : (s.setStack v).fpr = s.fpr := rfl
@[simp] theorem State.setStack_mem (s : State) (v : Vector Word 256) : (s.setStack v).mem = s.mem := rfl
@[simp] theorem State.setStack_rom (s : State) (v : Vector Word 256) : (s.setStack v).rom = s.rom := rfl
@[simp] theorem State.setStack_pending (s : State) (v : Vector Word 256) : (s.setStack v).pending = s.pending := rfl
@[simp] theorem State.setStack_irqEnv (s : State) (v : Vector Word 256) : (s.setStack v).irqEnv = s.irqEnv := rfl
@[simp] theorem State.setStack_irqDraws (s : State) (v : Vector Word 256) : (s.setStack v).irqDraws = s.irqDraws := rfl
@[simp] theorem State.setStack_storesSinceCcache (s : State) (v : Vector Word 256) : (s.setStack v).storesSinceCcache = s.storesSinceCcache := rfl
@[simp] theorem State.setStack_deviceLog (s : State) (v : Vector Word 256) : (s.setStack v).deviceLog = s.deviceLog := rfl
@[simp] theorem State.setStack_raceCount (s : State) (v : Vector Word 256) : (s.setStack v).raceCount = s.raceCount := rfl

/-! ### setSp -/

@[simp] theorem State.setSp_gpr (s : State) (v : BitVec 8) : (s.setSp v).gpr = s.gpr := rfl
@[simp] theorem State.setSp_pc (s : State) (v : BitVec 8) : (s.setSp v).pc = s.pc := rfl
@[simp] theorem State.setSp_stack (s : State) (v : BitVec 8) : (s.setSp v).stack = s.stack := rfl
@[simp] theorem State.setSp_sp (s : State) (v : BitVec 8) : (s.setSp v).sp = v := rfl
@[simp] theorem State.setSp_pcBackup (s : State) (v : BitVec 8) : (s.setSp v).pcBackup = s.pcBackup := rfl
@[simp] theorem State.setSp_intDisabled (s : State) (v : BitVec 8) : (s.setSp v).intDisabled = s.intDisabled := rfl
@[simp] theorem State.setSp_intId (s : State) (v : BitVec 8) : (s.setSp v).intId = s.intId := rfl
@[simp] theorem State.setSp_fpr (s : State) (v : BitVec 8) : (s.setSp v).fpr = s.fpr := rfl
@[simp] theorem State.setSp_mem (s : State) (v : BitVec 8) : (s.setSp v).mem = s.mem := rfl
@[simp] theorem State.setSp_rom (s : State) (v : BitVec 8) : (s.setSp v).rom = s.rom := rfl
@[simp] theorem State.setSp_pending (s : State) (v : BitVec 8) : (s.setSp v).pending = s.pending := rfl
@[simp] theorem State.setSp_irqEnv (s : State) (v : BitVec 8) : (s.setSp v).irqEnv = s.irqEnv := rfl
@[simp] theorem State.setSp_irqDraws (s : State) (v : BitVec 8) : (s.setSp v).irqDraws = s.irqDraws := rfl
@[simp] theorem State.setSp_storesSinceCcache (s : State) (v : BitVec 8) : (s.setSp v).storesSinceCcache = s.storesSinceCcache := rfl
@[simp] theorem State.setSp_deviceLog (s : State) (v : BitVec 8) : (s.setSp v).deviceLog = s.deviceLog := rfl
@[simp] theorem State.setSp_raceCount (s : State) (v : BitVec 8) : (s.setSp v).raceCount = s.raceCount := rfl

/-! ### setPcBackup -/

@[simp] theorem State.setPcBackup_gpr (s : State) (v : Word) : (s.setPcBackup v).gpr = s.gpr := rfl
@[simp] theorem State.setPcBackup_pc (s : State) (v : Word) : (s.setPcBackup v).pc = s.pc := rfl
@[simp] theorem State.setPcBackup_stack (s : State) (v : Word) : (s.setPcBackup v).stack = s.stack := rfl
@[simp] theorem State.setPcBackup_sp (s : State) (v : Word) : (s.setPcBackup v).sp = s.sp := rfl
@[simp] theorem State.setPcBackup_pcBackup (s : State) (v : Word) : (s.setPcBackup v).pcBackup = v := rfl
@[simp] theorem State.setPcBackup_intDisabled (s : State) (v : Word) : (s.setPcBackup v).intDisabled = s.intDisabled := rfl
@[simp] theorem State.setPcBackup_intId (s : State) (v : Word) : (s.setPcBackup v).intId = s.intId := rfl
@[simp] theorem State.setPcBackup_fpr (s : State) (v : Word) : (s.setPcBackup v).fpr = s.fpr := rfl
@[simp] theorem State.setPcBackup_mem (s : State) (v : Word) : (s.setPcBackup v).mem = s.mem := rfl
@[simp] theorem State.setPcBackup_rom (s : State) (v : Word) : (s.setPcBackup v).rom = s.rom := rfl
@[simp] theorem State.setPcBackup_pending (s : State) (v : Word) : (s.setPcBackup v).pending = s.pending := rfl
@[simp] theorem State.setPcBackup_irqEnv (s : State) (v : Word) : (s.setPcBackup v).irqEnv = s.irqEnv := rfl
@[simp] theorem State.setPcBackup_irqDraws (s : State) (v : Word) : (s.setPcBackup v).irqDraws = s.irqDraws := rfl
@[simp] theorem State.setPcBackup_storesSinceCcache (s : State) (v : Word) : (s.setPcBackup v).storesSinceCcache = s.storesSinceCcache := rfl
@[simp] theorem State.setPcBackup_deviceLog (s : State) (v : Word) : (s.setPcBackup v).deviceLog = s.deviceLog := rfl
@[simp] theorem State.setPcBackup_raceCount (s : State) (v : Word) : (s.setPcBackup v).raceCount = s.raceCount := rfl

/-! ### setIntDisabled -/

@[simp] theorem State.setIntDisabled_gpr (s : State) (v : Bool) : (s.setIntDisabled v).gpr = s.gpr := rfl
@[simp] theorem State.setIntDisabled_pc (s : State) (v : Bool) : (s.setIntDisabled v).pc = s.pc := rfl
@[simp] theorem State.setIntDisabled_stack (s : State) (v : Bool) : (s.setIntDisabled v).stack = s.stack := rfl
@[simp] theorem State.setIntDisabled_sp (s : State) (v : Bool) : (s.setIntDisabled v).sp = s.sp := rfl
@[simp] theorem State.setIntDisabled_pcBackup (s : State) (v : Bool) : (s.setIntDisabled v).pcBackup = s.pcBackup := rfl
@[simp] theorem State.setIntDisabled_intDisabled (s : State) (v : Bool) : (s.setIntDisabled v).intDisabled = v := rfl
@[simp] theorem State.setIntDisabled_intId (s : State) (v : Bool) : (s.setIntDisabled v).intId = s.intId := rfl
@[simp] theorem State.setIntDisabled_fpr (s : State) (v : Bool) : (s.setIntDisabled v).fpr = s.fpr := rfl
@[simp] theorem State.setIntDisabled_mem (s : State) (v : Bool) : (s.setIntDisabled v).mem = s.mem := rfl
@[simp] theorem State.setIntDisabled_rom (s : State) (v : Bool) : (s.setIntDisabled v).rom = s.rom := rfl
@[simp] theorem State.setIntDisabled_pending (s : State) (v : Bool) : (s.setIntDisabled v).pending = s.pending := rfl
@[simp] theorem State.setIntDisabled_irqEnv (s : State) (v : Bool) : (s.setIntDisabled v).irqEnv = s.irqEnv := rfl
@[simp] theorem State.setIntDisabled_irqDraws (s : State) (v : Bool) : (s.setIntDisabled v).irqDraws = s.irqDraws := rfl
@[simp] theorem State.setIntDisabled_storesSinceCcache (s : State) (v : Bool) : (s.setIntDisabled v).storesSinceCcache = s.storesSinceCcache := rfl
@[simp] theorem State.setIntDisabled_deviceLog (s : State) (v : Bool) : (s.setIntDisabled v).deviceLog = s.deviceLog := rfl
@[simp] theorem State.setIntDisabled_raceCount (s : State) (v : Bool) : (s.setIntDisabled v).raceCount = s.raceCount := rfl

/-! ### setIntId -/

@[simp] theorem State.setIntId_gpr (s : State) (v : BitVec 4) : (s.setIntId v).gpr = s.gpr := rfl
@[simp] theorem State.setIntId_pc (s : State) (v : BitVec 4) : (s.setIntId v).pc = s.pc := rfl
@[simp] theorem State.setIntId_stack (s : State) (v : BitVec 4) : (s.setIntId v).stack = s.stack := rfl
@[simp] theorem State.setIntId_sp (s : State) (v : BitVec 4) : (s.setIntId v).sp = s.sp := rfl
@[simp] theorem State.setIntId_pcBackup (s : State) (v : BitVec 4) : (s.setIntId v).pcBackup = s.pcBackup := rfl
@[simp] theorem State.setIntId_intDisabled (s : State) (v : BitVec 4) : (s.setIntId v).intDisabled = s.intDisabled := rfl
@[simp] theorem State.setIntId_intId (s : State) (v : BitVec 4) : (s.setIntId v).intId = v := rfl
@[simp] theorem State.setIntId_fpr (s : State) (v : BitVec 4) : (s.setIntId v).fpr = s.fpr := rfl
@[simp] theorem State.setIntId_mem (s : State) (v : BitVec 4) : (s.setIntId v).mem = s.mem := rfl
@[simp] theorem State.setIntId_rom (s : State) (v : BitVec 4) : (s.setIntId v).rom = s.rom := rfl
@[simp] theorem State.setIntId_pending (s : State) (v : BitVec 4) : (s.setIntId v).pending = s.pending := rfl
@[simp] theorem State.setIntId_irqEnv (s : State) (v : BitVec 4) : (s.setIntId v).irqEnv = s.irqEnv := rfl
@[simp] theorem State.setIntId_irqDraws (s : State) (v : BitVec 4) : (s.setIntId v).irqDraws = s.irqDraws := rfl
@[simp] theorem State.setIntId_storesSinceCcache (s : State) (v : BitVec 4) : (s.setIntId v).storesSinceCcache = s.storesSinceCcache := rfl
@[simp] theorem State.setIntId_deviceLog (s : State) (v : BitVec 4) : (s.setIntId v).deviceLog = s.deviceLog := rfl
@[simp] theorem State.setIntId_raceCount (s : State) (v : BitVec 4) : (s.setIntId v).raceCount = s.raceCount := rfl

/-! ### setFpr -/

@[simp] theorem State.setFpr_gpr (s : State) (v : Vector FWord 8) : (s.setFpr v).gpr = s.gpr := rfl
@[simp] theorem State.setFpr_pc (s : State) (v : Vector FWord 8) : (s.setFpr v).pc = s.pc := rfl
@[simp] theorem State.setFpr_stack (s : State) (v : Vector FWord 8) : (s.setFpr v).stack = s.stack := rfl
@[simp] theorem State.setFpr_sp (s : State) (v : Vector FWord 8) : (s.setFpr v).sp = s.sp := rfl
@[simp] theorem State.setFpr_pcBackup (s : State) (v : Vector FWord 8) : (s.setFpr v).pcBackup = s.pcBackup := rfl
@[simp] theorem State.setFpr_intDisabled (s : State) (v : Vector FWord 8) : (s.setFpr v).intDisabled = s.intDisabled := rfl
@[simp] theorem State.setFpr_intId (s : State) (v : Vector FWord 8) : (s.setFpr v).intId = s.intId := rfl
@[simp] theorem State.setFpr_fpr (s : State) (v : Vector FWord 8) : (s.setFpr v).fpr = v := rfl
@[simp] theorem State.setFpr_mem (s : State) (v : Vector FWord 8) : (s.setFpr v).mem = s.mem := rfl
@[simp] theorem State.setFpr_rom (s : State) (v : Vector FWord 8) : (s.setFpr v).rom = s.rom := rfl
@[simp] theorem State.setFpr_pending (s : State) (v : Vector FWord 8) : (s.setFpr v).pending = s.pending := rfl
@[simp] theorem State.setFpr_irqEnv (s : State) (v : Vector FWord 8) : (s.setFpr v).irqEnv = s.irqEnv := rfl
@[simp] theorem State.setFpr_irqDraws (s : State) (v : Vector FWord 8) : (s.setFpr v).irqDraws = s.irqDraws := rfl
@[simp] theorem State.setFpr_storesSinceCcache (s : State) (v : Vector FWord 8) : (s.setFpr v).storesSinceCcache = s.storesSinceCcache := rfl
@[simp] theorem State.setFpr_deviceLog (s : State) (v : Vector FWord 8) : (s.setFpr v).deviceLog = s.deviceLog := rfl
@[simp] theorem State.setFpr_raceCount (s : State) (v : Vector FWord 8) : (s.setFpr v).raceCount = s.raceCount := rfl

/-! ### setMem -/

@[simp] theorem State.setMem_gpr (s : State) (v : Memory) : (s.setMem v).gpr = s.gpr := rfl
@[simp] theorem State.setMem_pc (s : State) (v : Memory) : (s.setMem v).pc = s.pc := rfl
@[simp] theorem State.setMem_stack (s : State) (v : Memory) : (s.setMem v).stack = s.stack := rfl
@[simp] theorem State.setMem_sp (s : State) (v : Memory) : (s.setMem v).sp = s.sp := rfl
@[simp] theorem State.setMem_pcBackup (s : State) (v : Memory) : (s.setMem v).pcBackup = s.pcBackup := rfl
@[simp] theorem State.setMem_intDisabled (s : State) (v : Memory) : (s.setMem v).intDisabled = s.intDisabled := rfl
@[simp] theorem State.setMem_intId (s : State) (v : Memory) : (s.setMem v).intId = s.intId := rfl
@[simp] theorem State.setMem_fpr (s : State) (v : Memory) : (s.setMem v).fpr = s.fpr := rfl
@[simp] theorem State.setMem_mem (s : State) (v : Memory) : (s.setMem v).mem = v := rfl
@[simp] theorem State.setMem_rom (s : State) (v : Memory) : (s.setMem v).rom = s.rom := rfl
@[simp] theorem State.setMem_pending (s : State) (v : Memory) : (s.setMem v).pending = s.pending := rfl
@[simp] theorem State.setMem_irqEnv (s : State) (v : Memory) : (s.setMem v).irqEnv = s.irqEnv := rfl
@[simp] theorem State.setMem_irqDraws (s : State) (v : Memory) : (s.setMem v).irqDraws = s.irqDraws := rfl
@[simp] theorem State.setMem_storesSinceCcache (s : State) (v : Memory) : (s.setMem v).storesSinceCcache = s.storesSinceCcache := rfl
@[simp] theorem State.setMem_deviceLog (s : State) (v : Memory) : (s.setMem v).deviceLog = s.deviceLog := rfl
@[simp] theorem State.setMem_raceCount (s : State) (v : Memory) : (s.setMem v).raceCount = s.raceCount := rfl

/-! ### setRom -/

@[simp] theorem State.setRom_gpr (s : State) (v : Memory) : (s.setRom v).gpr = s.gpr := rfl
@[simp] theorem State.setRom_pc (s : State) (v : Memory) : (s.setRom v).pc = s.pc := rfl
@[simp] theorem State.setRom_stack (s : State) (v : Memory) : (s.setRom v).stack = s.stack := rfl
@[simp] theorem State.setRom_sp (s : State) (v : Memory) : (s.setRom v).sp = s.sp := rfl
@[simp] theorem State.setRom_pcBackup (s : State) (v : Memory) : (s.setRom v).pcBackup = s.pcBackup := rfl
@[simp] theorem State.setRom_intDisabled (s : State) (v : Memory) : (s.setRom v).intDisabled = s.intDisabled := rfl
@[simp] theorem State.setRom_intId (s : State) (v : Memory) : (s.setRom v).intId = s.intId := rfl
@[simp] theorem State.setRom_fpr (s : State) (v : Memory) : (s.setRom v).fpr = s.fpr := rfl
@[simp] theorem State.setRom_mem (s : State) (v : Memory) : (s.setRom v).mem = s.mem := rfl
@[simp] theorem State.setRom_rom (s : State) (v : Memory) : (s.setRom v).rom = v := rfl
@[simp] theorem State.setRom_pending (s : State) (v : Memory) : (s.setRom v).pending = s.pending := rfl
@[simp] theorem State.setRom_irqEnv (s : State) (v : Memory) : (s.setRom v).irqEnv = s.irqEnv := rfl
@[simp] theorem State.setRom_irqDraws (s : State) (v : Memory) : (s.setRom v).irqDraws = s.irqDraws := rfl
@[simp] theorem State.setRom_storesSinceCcache (s : State) (v : Memory) : (s.setRom v).storesSinceCcache = s.storesSinceCcache := rfl
@[simp] theorem State.setRom_deviceLog (s : State) (v : Memory) : (s.setRom v).deviceLog = s.deviceLog := rfl
@[simp] theorem State.setRom_raceCount (s : State) (v : Memory) : (s.setRom v).raceCount = s.raceCount := rfl

/-! ### setPending -/

@[simp] theorem State.setPending_gpr (s : State) (v : BitVec 8) : (s.setPending v).gpr = s.gpr := rfl
@[simp] theorem State.setPending_pc (s : State) (v : BitVec 8) : (s.setPending v).pc = s.pc := rfl
@[simp] theorem State.setPending_stack (s : State) (v : BitVec 8) : (s.setPending v).stack = s.stack := rfl
@[simp] theorem State.setPending_sp (s : State) (v : BitVec 8) : (s.setPending v).sp = s.sp := rfl
@[simp] theorem State.setPending_pcBackup (s : State) (v : BitVec 8) : (s.setPending v).pcBackup = s.pcBackup := rfl
@[simp] theorem State.setPending_intDisabled (s : State) (v : BitVec 8) : (s.setPending v).intDisabled = s.intDisabled := rfl
@[simp] theorem State.setPending_intId (s : State) (v : BitVec 8) : (s.setPending v).intId = s.intId := rfl
@[simp] theorem State.setPending_fpr (s : State) (v : BitVec 8) : (s.setPending v).fpr = s.fpr := rfl
@[simp] theorem State.setPending_mem (s : State) (v : BitVec 8) : (s.setPending v).mem = s.mem := rfl
@[simp] theorem State.setPending_rom (s : State) (v : BitVec 8) : (s.setPending v).rom = s.rom := rfl
@[simp] theorem State.setPending_pending (s : State) (v : BitVec 8) : (s.setPending v).pending = v := rfl
@[simp] theorem State.setPending_irqEnv (s : State) (v : BitVec 8) : (s.setPending v).irqEnv = s.irqEnv := rfl
@[simp] theorem State.setPending_irqDraws (s : State) (v : BitVec 8) : (s.setPending v).irqDraws = s.irqDraws := rfl
@[simp] theorem State.setPending_storesSinceCcache (s : State) (v : BitVec 8) : (s.setPending v).storesSinceCcache = s.storesSinceCcache := rfl
@[simp] theorem State.setPending_deviceLog (s : State) (v : BitVec 8) : (s.setPending v).deviceLog = s.deviceLog := rfl
@[simp] theorem State.setPending_raceCount (s : State) (v : BitVec 8) : (s.setPending v).raceCount = s.raceCount := rfl

/-! ### setIrqEnv -/

@[simp] theorem State.setIrqEnv_gpr (s : State) (v : InterruptEnv) : (s.setIrqEnv v).gpr = s.gpr := rfl
@[simp] theorem State.setIrqEnv_pc (s : State) (v : InterruptEnv) : (s.setIrqEnv v).pc = s.pc := rfl
@[simp] theorem State.setIrqEnv_stack (s : State) (v : InterruptEnv) : (s.setIrqEnv v).stack = s.stack := rfl
@[simp] theorem State.setIrqEnv_sp (s : State) (v : InterruptEnv) : (s.setIrqEnv v).sp = s.sp := rfl
@[simp] theorem State.setIrqEnv_pcBackup (s : State) (v : InterruptEnv) : (s.setIrqEnv v).pcBackup = s.pcBackup := rfl
@[simp] theorem State.setIrqEnv_intDisabled (s : State) (v : InterruptEnv) : (s.setIrqEnv v).intDisabled = s.intDisabled := rfl
@[simp] theorem State.setIrqEnv_intId (s : State) (v : InterruptEnv) : (s.setIrqEnv v).intId = s.intId := rfl
@[simp] theorem State.setIrqEnv_fpr (s : State) (v : InterruptEnv) : (s.setIrqEnv v).fpr = s.fpr := rfl
@[simp] theorem State.setIrqEnv_mem (s : State) (v : InterruptEnv) : (s.setIrqEnv v).mem = s.mem := rfl
@[simp] theorem State.setIrqEnv_rom (s : State) (v : InterruptEnv) : (s.setIrqEnv v).rom = s.rom := rfl
@[simp] theorem State.setIrqEnv_pending (s : State) (v : InterruptEnv) : (s.setIrqEnv v).pending = s.pending := rfl
@[simp] theorem State.setIrqEnv_irqEnv (s : State) (v : InterruptEnv) : (s.setIrqEnv v).irqEnv = v := rfl
@[simp] theorem State.setIrqEnv_irqDraws (s : State) (v : InterruptEnv) : (s.setIrqEnv v).irqDraws = s.irqDraws := rfl
@[simp] theorem State.setIrqEnv_storesSinceCcache (s : State) (v : InterruptEnv) : (s.setIrqEnv v).storesSinceCcache = s.storesSinceCcache := rfl
@[simp] theorem State.setIrqEnv_deviceLog (s : State) (v : InterruptEnv) : (s.setIrqEnv v).deviceLog = s.deviceLog := rfl
@[simp] theorem State.setIrqEnv_raceCount (s : State) (v : InterruptEnv) : (s.setIrqEnv v).raceCount = s.raceCount := rfl

/-! ### setIrqDraws -/

@[simp] theorem State.setIrqDraws_gpr (s : State) (v : Nat) : (s.setIrqDraws v).gpr = s.gpr := rfl
@[simp] theorem State.setIrqDraws_pc (s : State) (v : Nat) : (s.setIrqDraws v).pc = s.pc := rfl
@[simp] theorem State.setIrqDraws_stack (s : State) (v : Nat) : (s.setIrqDraws v).stack = s.stack := rfl
@[simp] theorem State.setIrqDraws_sp (s : State) (v : Nat) : (s.setIrqDraws v).sp = s.sp := rfl
@[simp] theorem State.setIrqDraws_pcBackup (s : State) (v : Nat) : (s.setIrqDraws v).pcBackup = s.pcBackup := rfl
@[simp] theorem State.setIrqDraws_intDisabled (s : State) (v : Nat) : (s.setIrqDraws v).intDisabled = s.intDisabled := rfl
@[simp] theorem State.setIrqDraws_intId (s : State) (v : Nat) : (s.setIrqDraws v).intId = s.intId := rfl
@[simp] theorem State.setIrqDraws_fpr (s : State) (v : Nat) : (s.setIrqDraws v).fpr = s.fpr := rfl
@[simp] theorem State.setIrqDraws_mem (s : State) (v : Nat) : (s.setIrqDraws v).mem = s.mem := rfl
@[simp] theorem State.setIrqDraws_rom (s : State) (v : Nat) : (s.setIrqDraws v).rom = s.rom := rfl
@[simp] theorem State.setIrqDraws_pending (s : State) (v : Nat) : (s.setIrqDraws v).pending = s.pending := rfl
@[simp] theorem State.setIrqDraws_irqEnv (s : State) (v : Nat) : (s.setIrqDraws v).irqEnv = s.irqEnv := rfl
@[simp] theorem State.setIrqDraws_irqDraws (s : State) (v : Nat) : (s.setIrqDraws v).irqDraws = v := rfl
@[simp] theorem State.setIrqDraws_storesSinceCcache (s : State) (v : Nat) : (s.setIrqDraws v).storesSinceCcache = s.storesSinceCcache := rfl
@[simp] theorem State.setIrqDraws_deviceLog (s : State) (v : Nat) : (s.setIrqDraws v).deviceLog = s.deviceLog := rfl
@[simp] theorem State.setIrqDraws_raceCount (s : State) (v : Nat) : (s.setIrqDraws v).raceCount = s.raceCount := rfl

/-! ### setStoresSinceCcache -/

@[simp] theorem State.setStoresSinceCcache_gpr (s : State) (v : List StoreRecord) : (s.setStoresSinceCcache v).gpr = s.gpr := rfl
@[simp] theorem State.setStoresSinceCcache_pc (s : State) (v : List StoreRecord) : (s.setStoresSinceCcache v).pc = s.pc := rfl
@[simp] theorem State.setStoresSinceCcache_stack (s : State) (v : List StoreRecord) : (s.setStoresSinceCcache v).stack = s.stack := rfl
@[simp] theorem State.setStoresSinceCcache_sp (s : State) (v : List StoreRecord) : (s.setStoresSinceCcache v).sp = s.sp := rfl
@[simp] theorem State.setStoresSinceCcache_pcBackup (s : State) (v : List StoreRecord) : (s.setStoresSinceCcache v).pcBackup = s.pcBackup := rfl
@[simp] theorem State.setStoresSinceCcache_intDisabled (s : State) (v : List StoreRecord) : (s.setStoresSinceCcache v).intDisabled = s.intDisabled := rfl
@[simp] theorem State.setStoresSinceCcache_intId (s : State) (v : List StoreRecord) : (s.setStoresSinceCcache v).intId = s.intId := rfl
@[simp] theorem State.setStoresSinceCcache_fpr (s : State) (v : List StoreRecord) : (s.setStoresSinceCcache v).fpr = s.fpr := rfl
@[simp] theorem State.setStoresSinceCcache_mem (s : State) (v : List StoreRecord) : (s.setStoresSinceCcache v).mem = s.mem := rfl
@[simp] theorem State.setStoresSinceCcache_rom (s : State) (v : List StoreRecord) : (s.setStoresSinceCcache v).rom = s.rom := rfl
@[simp] theorem State.setStoresSinceCcache_pending (s : State) (v : List StoreRecord) : (s.setStoresSinceCcache v).pending = s.pending := rfl
@[simp] theorem State.setStoresSinceCcache_irqEnv (s : State) (v : List StoreRecord) : (s.setStoresSinceCcache v).irqEnv = s.irqEnv := rfl
@[simp] theorem State.setStoresSinceCcache_irqDraws (s : State) (v : List StoreRecord) : (s.setStoresSinceCcache v).irqDraws = s.irqDraws := rfl
@[simp] theorem State.setStoresSinceCcache_storesSinceCcache (s : State) (v : List StoreRecord) : (s.setStoresSinceCcache v).storesSinceCcache = v := rfl
@[simp] theorem State.setStoresSinceCcache_deviceLog (s : State) (v : List StoreRecord) : (s.setStoresSinceCcache v).deviceLog = s.deviceLog := rfl
@[simp] theorem State.setStoresSinceCcache_raceCount (s : State) (v : List StoreRecord) : (s.setStoresSinceCcache v).raceCount = s.raceCount := rfl

/-! ### setDeviceLog -/

@[simp] theorem State.setDeviceLog_gpr (s : State) (v : List DeviceAccess) : (s.setDeviceLog v).gpr = s.gpr := rfl
@[simp] theorem State.setDeviceLog_pc (s : State) (v : List DeviceAccess) : (s.setDeviceLog v).pc = s.pc := rfl
@[simp] theorem State.setDeviceLog_stack (s : State) (v : List DeviceAccess) : (s.setDeviceLog v).stack = s.stack := rfl
@[simp] theorem State.setDeviceLog_sp (s : State) (v : List DeviceAccess) : (s.setDeviceLog v).sp = s.sp := rfl
@[simp] theorem State.setDeviceLog_pcBackup (s : State) (v : List DeviceAccess) : (s.setDeviceLog v).pcBackup = s.pcBackup := rfl
@[simp] theorem State.setDeviceLog_intDisabled (s : State) (v : List DeviceAccess) : (s.setDeviceLog v).intDisabled = s.intDisabled := rfl
@[simp] theorem State.setDeviceLog_intId (s : State) (v : List DeviceAccess) : (s.setDeviceLog v).intId = s.intId := rfl
@[simp] theorem State.setDeviceLog_fpr (s : State) (v : List DeviceAccess) : (s.setDeviceLog v).fpr = s.fpr := rfl
@[simp] theorem State.setDeviceLog_mem (s : State) (v : List DeviceAccess) : (s.setDeviceLog v).mem = s.mem := rfl
@[simp] theorem State.setDeviceLog_rom (s : State) (v : List DeviceAccess) : (s.setDeviceLog v).rom = s.rom := rfl
@[simp] theorem State.setDeviceLog_pending (s : State) (v : List DeviceAccess) : (s.setDeviceLog v).pending = s.pending := rfl
@[simp] theorem State.setDeviceLog_irqEnv (s : State) (v : List DeviceAccess) : (s.setDeviceLog v).irqEnv = s.irqEnv := rfl
@[simp] theorem State.setDeviceLog_irqDraws (s : State) (v : List DeviceAccess) : (s.setDeviceLog v).irqDraws = s.irqDraws := rfl
@[simp] theorem State.setDeviceLog_storesSinceCcache (s : State) (v : List DeviceAccess) : (s.setDeviceLog v).storesSinceCcache = s.storesSinceCcache := rfl
@[simp] theorem State.setDeviceLog_deviceLog (s : State) (v : List DeviceAccess) : (s.setDeviceLog v).deviceLog = v := rfl
@[simp] theorem State.setDeviceLog_raceCount (s : State) (v : List DeviceAccess) : (s.setDeviceLog v).raceCount = s.raceCount := rfl

/-! ### setRaceCount -/

@[simp] theorem State.setRaceCount_gpr (s : State) (v : Nat) : (s.setRaceCount v).gpr = s.gpr := rfl
@[simp] theorem State.setRaceCount_pc (s : State) (v : Nat) : (s.setRaceCount v).pc = s.pc := rfl
@[simp] theorem State.setRaceCount_stack (s : State) (v : Nat) : (s.setRaceCount v).stack = s.stack := rfl
@[simp] theorem State.setRaceCount_sp (s : State) (v : Nat) : (s.setRaceCount v).sp = s.sp := rfl
@[simp] theorem State.setRaceCount_pcBackup (s : State) (v : Nat) : (s.setRaceCount v).pcBackup = s.pcBackup := rfl
@[simp] theorem State.setRaceCount_intDisabled (s : State) (v : Nat) : (s.setRaceCount v).intDisabled = s.intDisabled := rfl
@[simp] theorem State.setRaceCount_intId (s : State) (v : Nat) : (s.setRaceCount v).intId = s.intId := rfl
@[simp] theorem State.setRaceCount_fpr (s : State) (v : Nat) : (s.setRaceCount v).fpr = s.fpr := rfl
@[simp] theorem State.setRaceCount_mem (s : State) (v : Nat) : (s.setRaceCount v).mem = s.mem := rfl
@[simp] theorem State.setRaceCount_rom (s : State) (v : Nat) : (s.setRaceCount v).rom = s.rom := rfl
@[simp] theorem State.setRaceCount_pending (s : State) (v : Nat) : (s.setRaceCount v).pending = s.pending := rfl
@[simp] theorem State.setRaceCount_irqEnv (s : State) (v : Nat) : (s.setRaceCount v).irqEnv = s.irqEnv := rfl
@[simp] theorem State.setRaceCount_irqDraws (s : State) (v : Nat) : (s.setRaceCount v).irqDraws = s.irqDraws := rfl
@[simp] theorem State.setRaceCount_storesSinceCcache (s : State) (v : Nat) : (s.setRaceCount v).storesSinceCcache = s.storesSinceCcache := rfl
@[simp] theorem State.setRaceCount_deviceLog (s : State) (v : Nat) : (s.setRaceCount v).deviceLog = s.deviceLog := rfl
@[simp] theorem State.setRaceCount_raceCount (s : State) (v : Nat) : (s.setRaceCount v).raceCount = v := rfl

end Sys2Proof.Machine
end

