-- ==== Sys2Proof/Laws/Fields.lean ====
section
/-! SUPPORT. What each named operation leaves in each field of State, for every field it does not write (and the plain value where it
does). -/

namespace Sys2Proof.Machine

/-! ### writeReg -/

@[simp] theorem writeReg_pc (s : State) (r : Reg) (v : Word) : (writeReg s r v).pc = s.pc := by unfold writeReg; split <;> rfl
@[simp] theorem writeReg_stack (s : State) (r : Reg) (v : Word) : (writeReg s r v).stack = s.stack := by unfold writeReg; split <;> rfl
@[simp] theorem writeReg_sp (s : State) (r : Reg) (v : Word) : (writeReg s r v).sp = s.sp := by unfold writeReg; split <;> rfl
@[simp] theorem writeReg_pcBackup (s : State) (r : Reg) (v : Word) : (writeReg s r v).pcBackup = s.pcBackup := by unfold writeReg; split <;> rfl
@[simp] theorem writeReg_intDisabled (s : State) (r : Reg) (v : Word) : (writeReg s r v).intDisabled = s.intDisabled := by unfold writeReg; split <;> rfl
@[simp] theorem writeReg_intId (s : State) (r : Reg) (v : Word) : (writeReg s r v).intId = s.intId := by unfold writeReg; split <;> rfl
@[simp] theorem writeReg_fpr (s : State) (r : Reg) (v : Word) : (writeReg s r v).fpr = s.fpr := by unfold writeReg; split <;> rfl
@[simp] theorem writeReg_mem (s : State) (r : Reg) (v : Word) : (writeReg s r v).mem = s.mem := by unfold writeReg; split <;> rfl
@[simp] theorem writeReg_rom (s : State) (r : Reg) (v : Word) : (writeReg s r v).rom = s.rom := by unfold writeReg; split <;> rfl
@[simp] theorem writeReg_pending (s : State) (r : Reg) (v : Word) : (writeReg s r v).pending = s.pending := by unfold writeReg; split <;> rfl
@[simp] theorem writeReg_irqEnv (s : State) (r : Reg) (v : Word) : (writeReg s r v).irqEnv = s.irqEnv := by unfold writeReg; split <;> rfl
@[simp] theorem writeReg_irqDraws (s : State) (r : Reg) (v : Word) : (writeReg s r v).irqDraws = s.irqDraws := by unfold writeReg; split <;> rfl
@[simp] theorem writeReg_storesSinceCcache (s : State) (r : Reg) (v : Word) : (writeReg s r v).storesSinceCcache = s.storesSinceCcache := by unfold writeReg; split <;> rfl
@[simp] theorem writeReg_deviceLog (s : State) (r : Reg) (v : Word) : (writeReg s r v).deviceLog = s.deviceLog := by unfold writeReg; split <;> rfl
@[simp] theorem writeReg_raceCount (s : State) (r : Reg) (v : Word) : (writeReg s r v).raceCount = s.raceCount := by unfold writeReg; split <;> rfl

/-! ### writeF -/

@[simp] theorem writeF_gpr (s : State) (f : FReg) (v : FWord) : (writeF s f v).gpr = s.gpr := by rfl
@[simp] theorem writeF_pc (s : State) (f : FReg) (v : FWord) : (writeF s f v).pc = s.pc := by rfl
@[simp] theorem writeF_stack (s : State) (f : FReg) (v : FWord) : (writeF s f v).stack = s.stack := by rfl
@[simp] theorem writeF_sp (s : State) (f : FReg) (v : FWord) : (writeF s f v).sp = s.sp := by rfl
@[simp] theorem writeF_pcBackup (s : State) (f : FReg) (v : FWord) : (writeF s f v).pcBackup = s.pcBackup := by rfl
@[simp] theorem writeF_intDisabled (s : State) (f : FReg) (v : FWord) : (writeF s f v).intDisabled = s.intDisabled := by rfl
@[simp] theorem writeF_intId (s : State) (f : FReg) (v : FWord) : (writeF s f v).intId = s.intId := by rfl
@[simp] theorem writeF_mem (s : State) (f : FReg) (v : FWord) : (writeF s f v).mem = s.mem := by rfl
@[simp] theorem writeF_rom (s : State) (f : FReg) (v : FWord) : (writeF s f v).rom = s.rom := by rfl
@[simp] theorem writeF_pending (s : State) (f : FReg) (v : FWord) : (writeF s f v).pending = s.pending := by rfl
@[simp] theorem writeF_irqEnv (s : State) (f : FReg) (v : FWord) : (writeF s f v).irqEnv = s.irqEnv := by rfl
@[simp] theorem writeF_irqDraws (s : State) (f : FReg) (v : FWord) : (writeF s f v).irqDraws = s.irqDraws := by rfl
@[simp] theorem writeF_storesSinceCcache (s : State) (f : FReg) (v : FWord) : (writeF s f v).storesSinceCcache = s.storesSinceCcache := by rfl
@[simp] theorem writeF_deviceLog (s : State) (f : FReg) (v : FWord) : (writeF s f v).deviceLog = s.deviceLog := by rfl
@[simp] theorem writeF_raceCount (s : State) (f : FReg) (v : FWord) : (writeF s f v).raceCount = s.raceCount := by rfl

/-! ### advance -/

@[simp] theorem advance_gpr (s : State) : (advance s).gpr = s.gpr := by rfl
@[simp] theorem advance_pc (s : State) : (advance s).pc = s.pc + 4#32 := by rfl
@[simp] theorem advance_stack (s : State) : (advance s).stack = s.stack := by rfl
@[simp] theorem advance_sp (s : State) : (advance s).sp = s.sp := by rfl
@[simp] theorem advance_pcBackup (s : State) : (advance s).pcBackup = s.pcBackup := by rfl
@[simp] theorem advance_intDisabled (s : State) : (advance s).intDisabled = s.intDisabled := by rfl
@[simp] theorem advance_intId (s : State) : (advance s).intId = s.intId := by rfl
@[simp] theorem advance_fpr (s : State) : (advance s).fpr = s.fpr := by rfl
@[simp] theorem advance_mem (s : State) : (advance s).mem = s.mem := by rfl
@[simp] theorem advance_rom (s : State) : (advance s).rom = s.rom := by rfl
@[simp] theorem advance_pending (s : State) : (advance s).pending = s.pending := by rfl
@[simp] theorem advance_irqEnv (s : State) : (advance s).irqEnv = s.irqEnv := by rfl
@[simp] theorem advance_irqDraws (s : State) : (advance s).irqDraws = s.irqDraws := by rfl
@[simp] theorem advance_storesSinceCcache (s : State) : (advance s).storesSinceCcache = s.storesSinceCcache := by rfl
@[simp] theorem advance_deviceLog (s : State) : (advance s).deviceLog = s.deviceLog := by rfl
@[simp] theorem advance_raceCount (s : State) : (advance s).raceCount = s.raceCount := by rfl

/-! ### pushStack -/

@[simp] theorem pushStack_gpr (s : State) (v : Word) : (pushStack s v).gpr = s.gpr := by rfl
@[simp] theorem pushStack_pc (s : State) (v : Word) : (pushStack s v).pc = s.pc := by rfl
@[simp] theorem pushStack_sp (s : State) (v : Word) : (pushStack s v).sp = s.sp + 1#8 := by rfl
@[simp] theorem pushStack_pcBackup (s : State) (v : Word) : (pushStack s v).pcBackup = s.pcBackup := by rfl
@[simp] theorem pushStack_intDisabled (s : State) (v : Word) : (pushStack s v).intDisabled = s.intDisabled := by rfl
@[simp] theorem pushStack_intId (s : State) (v : Word) : (pushStack s v).intId = s.intId := by rfl
@[simp] theorem pushStack_fpr (s : State) (v : Word) : (pushStack s v).fpr = s.fpr := by rfl
@[simp] theorem pushStack_mem (s : State) (v : Word) : (pushStack s v).mem = s.mem := by rfl
@[simp] theorem pushStack_rom (s : State) (v : Word) : (pushStack s v).rom = s.rom := by rfl
@[simp] theorem pushStack_pending (s : State) (v : Word) : (pushStack s v).pending = s.pending := by rfl
@[simp] theorem pushStack_irqEnv (s : State) (v : Word) : (pushStack s v).irqEnv = s.irqEnv := by rfl
@[simp] theorem pushStack_irqDraws (s : State) (v : Word) : (pushStack s v).irqDraws = s.irqDraws := by rfl
@[simp] theorem pushStack_storesSinceCcache (s : State) (v : Word) : (pushStack s v).storesSinceCcache = s.storesSinceCcache := by rfl
@[simp] theorem pushStack_deviceLog (s : State) (v : Word) : (pushStack s v).deviceLog = s.deviceLog := by rfl
@[simp] theorem pushStack_raceCount (s : State) (v : Word) : (pushStack s v).raceCount = s.raceCount := by rfl

/-! ### popStack -/

@[simp] theorem popStack_gpr (s : State) : ((popStack s).2).gpr = s.gpr := by rfl
@[simp] theorem popStack_pc (s : State) : ((popStack s).2).pc = s.pc := by rfl
@[simp] theorem popStack_stack (s : State) : ((popStack s).2).stack = s.stack := by rfl
@[simp] theorem popStack_sp (s : State) : ((popStack s).2).sp = s.sp - 1#8 := by rfl
@[simp] theorem popStack_pcBackup (s : State) : ((popStack s).2).pcBackup = s.pcBackup := by rfl
@[simp] theorem popStack_intDisabled (s : State) : ((popStack s).2).intDisabled = s.intDisabled := by rfl
@[simp] theorem popStack_intId (s : State) : ((popStack s).2).intId = s.intId := by rfl
@[simp] theorem popStack_fpr (s : State) : ((popStack s).2).fpr = s.fpr := by rfl
@[simp] theorem popStack_mem (s : State) : ((popStack s).2).mem = s.mem := by rfl
@[simp] theorem popStack_rom (s : State) : ((popStack s).2).rom = s.rom := by rfl
@[simp] theorem popStack_pending (s : State) : ((popStack s).2).pending = s.pending := by rfl
@[simp] theorem popStack_irqEnv (s : State) : ((popStack s).2).irqEnv = s.irqEnv := by rfl
@[simp] theorem popStack_irqDraws (s : State) : ((popStack s).2).irqDraws = s.irqDraws := by rfl
@[simp] theorem popStack_storesSinceCcache (s : State) : ((popStack s).2).storesSinceCcache = s.storesSinceCcache := by rfl
@[simp] theorem popStack_deviceLog (s : State) : ((popStack s).2).deviceLog = s.deviceLog := by rfl
@[simp] theorem popStack_raceCount (s : State) : ((popStack s).2).raceCount = s.raceCount := by rfl

/-! ### deviceLoad -/

@[simp] theorem deviceLoad_gpr (s : State) (a : Nat) : ((deviceLoad s a).2).gpr = s.gpr := by rfl
@[simp] theorem deviceLoad_pc (s : State) (a : Nat) : ((deviceLoad s a).2).pc = s.pc := by rfl
@[simp] theorem deviceLoad_stack (s : State) (a : Nat) : ((deviceLoad s a).2).stack = s.stack := by rfl
@[simp] theorem deviceLoad_sp (s : State) (a : Nat) : ((deviceLoad s a).2).sp = s.sp := by rfl
@[simp] theorem deviceLoad_pcBackup (s : State) (a : Nat) : ((deviceLoad s a).2).pcBackup = s.pcBackup := by rfl
@[simp] theorem deviceLoad_intDisabled (s : State) (a : Nat) : ((deviceLoad s a).2).intDisabled = s.intDisabled := by rfl
@[simp] theorem deviceLoad_intId (s : State) (a : Nat) : ((deviceLoad s a).2).intId = s.intId := by rfl
@[simp] theorem deviceLoad_fpr (s : State) (a : Nat) : ((deviceLoad s a).2).fpr = s.fpr := by rfl
@[simp] theorem deviceLoad_mem (s : State) (a : Nat) : ((deviceLoad s a).2).mem = s.mem := by rfl
@[simp] theorem deviceLoad_rom (s : State) (a : Nat) : ((deviceLoad s a).2).rom = s.rom := by rfl
@[simp] theorem deviceLoad_pending (s : State) (a : Nat) : ((deviceLoad s a).2).pending = s.pending := by rfl
@[simp] theorem deviceLoad_irqEnv (s : State) (a : Nat) : ((deviceLoad s a).2).irqEnv = s.irqEnv := by rfl
@[simp] theorem deviceLoad_irqDraws (s : State) (a : Nat) : ((deviceLoad s a).2).irqDraws = s.irqDraws := by rfl
@[simp] theorem deviceLoad_storesSinceCcache (s : State) (a : Nat) : ((deviceLoad s a).2).storesSinceCcache = s.storesSinceCcache := by rfl
@[simp] theorem deviceLoad_deviceLog (s : State) (a : Nat) : ((deviceLoad s a).2).deviceLog = .read a :: s.deviceLog := by rfl
@[simp] theorem deviceLoad_raceCount (s : State) (a : Nat) : ((deviceLoad s a).2).raceCount = s.raceCount := by rfl

/-! ### deviceStore -/

@[simp] theorem deviceStore_gpr (s : State) (a : Nat) (v : Word) : (deviceStore s a v).gpr = s.gpr := by rfl
@[simp] theorem deviceStore_pc (s : State) (a : Nat) (v : Word) : (deviceStore s a v).pc = s.pc := by rfl
@[simp] theorem deviceStore_stack (s : State) (a : Nat) (v : Word) : (deviceStore s a v).stack = s.stack := by rfl
@[simp] theorem deviceStore_sp (s : State) (a : Nat) (v : Word) : (deviceStore s a v).sp = s.sp := by rfl
@[simp] theorem deviceStore_pcBackup (s : State) (a : Nat) (v : Word) : (deviceStore s a v).pcBackup = s.pcBackup := by rfl
@[simp] theorem deviceStore_intDisabled (s : State) (a : Nat) (v : Word) : (deviceStore s a v).intDisabled = s.intDisabled := by rfl
@[simp] theorem deviceStore_intId (s : State) (a : Nat) (v : Word) : (deviceStore s a v).intId = s.intId := by rfl
@[simp] theorem deviceStore_fpr (s : State) (a : Nat) (v : Word) : (deviceStore s a v).fpr = s.fpr := by rfl
@[simp] theorem deviceStore_mem (s : State) (a : Nat) (v : Word) : (deviceStore s a v).mem = s.mem := by rfl
@[simp] theorem deviceStore_rom (s : State) (a : Nat) (v : Word) : (deviceStore s a v).rom = s.rom := by rfl
@[simp] theorem deviceStore_pending (s : State) (a : Nat) (v : Word) : (deviceStore s a v).pending = s.pending := by rfl
@[simp] theorem deviceStore_irqEnv (s : State) (a : Nat) (v : Word) : (deviceStore s a v).irqEnv = s.irqEnv := by rfl
@[simp] theorem deviceStore_irqDraws (s : State) (a : Nat) (v : Word) : (deviceStore s a v).irqDraws = s.irqDraws := by rfl
@[simp] theorem deviceStore_storesSinceCcache (s : State) (a : Nat) (v : Word) : (deviceStore s a v).storesSinceCcache = s.storesSinceCcache := by rfl
@[simp] theorem deviceStore_deviceLog (s : State) (a : Nat) (v : Word) : (deviceStore s a v).deviceLog = .write a v :: s.deviceLog := by rfl
@[simp] theorem deviceStore_raceCount (s : State) (a : Nat) (v : Word) : (deviceStore s a v).raceCount = s.raceCount := by rfl

/-! ### internalStore -/

@[simp] theorem internalStore_gpr (s : State) (a : Nat) (v : Word) : (internalStore s a v).gpr = s.gpr := by unfold internalStore; split <;> rfl
@[simp] theorem internalStore_pc (s : State) (a : Nat) (v : Word) : (internalStore s a v).pc = s.pc := by unfold internalStore; split <;> rfl
@[simp] theorem internalStore_stack (s : State) (a : Nat) (v : Word) : (internalStore s a v).stack = s.stack := by unfold internalStore; split <;> rfl
@[simp] theorem internalStore_sp (s : State) (a : Nat) (v : Word) : (internalStore s a v).sp = (if a = pcBackupAddress then s.sp else v.extractLsb' 0 8) := by unfold internalStore; split <;> rfl
@[simp] theorem internalStore_pcBackup (s : State) (a : Nat) (v : Word) : (internalStore s a v).pcBackup = (if a = pcBackupAddress then v else s.pcBackup) := by unfold internalStore; split <;> rfl
@[simp] theorem internalStore_intDisabled (s : State) (a : Nat) (v : Word) : (internalStore s a v).intDisabled = s.intDisabled := by unfold internalStore; split <;> rfl
@[simp] theorem internalStore_intId (s : State) (a : Nat) (v : Word) : (internalStore s a v).intId = s.intId := by unfold internalStore; split <;> rfl
@[simp] theorem internalStore_fpr (s : State) (a : Nat) (v : Word) : (internalStore s a v).fpr = s.fpr := by unfold internalStore; split <;> rfl
@[simp] theorem internalStore_mem (s : State) (a : Nat) (v : Word) : (internalStore s a v).mem = s.mem := by unfold internalStore; split <;> rfl
@[simp] theorem internalStore_rom (s : State) (a : Nat) (v : Word) : (internalStore s a v).rom = s.rom := by unfold internalStore; split <;> rfl
@[simp] theorem internalStore_pending (s : State) (a : Nat) (v : Word) : (internalStore s a v).pending = s.pending := by unfold internalStore; split <;> rfl
@[simp] theorem internalStore_irqEnv (s : State) (a : Nat) (v : Word) : (internalStore s a v).irqEnv = s.irqEnv := by unfold internalStore; split <;> rfl
@[simp] theorem internalStore_irqDraws (s : State) (a : Nat) (v : Word) : (internalStore s a v).irqDraws = s.irqDraws := by unfold internalStore; split <;> rfl
@[simp] theorem internalStore_storesSinceCcache (s : State) (a : Nat) (v : Word) : (internalStore s a v).storesSinceCcache = s.storesSinceCcache := by unfold internalStore; split <;> rfl
@[simp] theorem internalStore_deviceLog (s : State) (a : Nat) (v : Word) : (internalStore s a v).deviceLog = s.deviceLog := by unfold internalStore; split <;> rfl
@[simp] theorem internalStore_raceCount (s : State) (a : Nat) (v : Word) : (internalStore s a v).raceCount = s.raceCount := by unfold internalStore; split <;> rfl

/-! ### storeSdram -/

@[simp] theorem storeSdram_gpr (s : State) (a : Nat) (bs : List Byte) : (storeSdram s a bs).gpr = s.gpr := by rfl
@[simp] theorem storeSdram_pc (s : State) (a : Nat) (bs : List Byte) : (storeSdram s a bs).pc = s.pc := by rfl
@[simp] theorem storeSdram_stack (s : State) (a : Nat) (bs : List Byte) : (storeSdram s a bs).stack = s.stack := by rfl
@[simp] theorem storeSdram_sp (s : State) (a : Nat) (bs : List Byte) : (storeSdram s a bs).sp = s.sp := by rfl
@[simp] theorem storeSdram_pcBackup (s : State) (a : Nat) (bs : List Byte) : (storeSdram s a bs).pcBackup = s.pcBackup := by rfl
@[simp] theorem storeSdram_intDisabled (s : State) (a : Nat) (bs : List Byte) : (storeSdram s a bs).intDisabled = s.intDisabled := by rfl
@[simp] theorem storeSdram_intId (s : State) (a : Nat) (bs : List Byte) : (storeSdram s a bs).intId = s.intId := by rfl
@[simp] theorem storeSdram_fpr (s : State) (a : Nat) (bs : List Byte) : (storeSdram s a bs).fpr = s.fpr := by rfl
@[simp] theorem storeSdram_mem (s : State) (a : Nat) (bs : List Byte) : (storeSdram s a bs).mem = Memory.writeBytes s.mem a bs := by rfl
@[simp] theorem storeSdram_rom (s : State) (a : Nat) (bs : List Byte) : (storeSdram s a bs).rom = s.rom := by rfl
@[simp] theorem storeSdram_pending (s : State) (a : Nat) (bs : List Byte) : (storeSdram s a bs).pending = s.pending := by rfl
@[simp] theorem storeSdram_irqEnv (s : State) (a : Nat) (bs : List Byte) : (storeSdram s a bs).irqEnv = s.irqEnv := by rfl
@[simp] theorem storeSdram_irqDraws (s : State) (a : Nat) (bs : List Byte) : (storeSdram s a bs).irqDraws = s.irqDraws := by rfl
@[simp] theorem storeSdram_storesSinceCcache (s : State) (a : Nat) (bs : List Byte) : (storeSdram s a bs).storesSinceCcache = ⟨a / 4 * 4, loadWord s.mem (a / 4 * 4)⟩ :: s.storesSinceCcache := by rfl
@[simp] theorem storeSdram_deviceLog (s : State) (a : Nat) (bs : List Byte) : (storeSdram s a bs).deviceLog = s.deviceLog := by rfl
@[simp] theorem storeSdram_raceCount (s : State) (a : Nat) (bs : List Byte) : (storeSdram s a bs).raceCount = s.raceCount := by rfl

/-! ### clearCaches -/

@[simp] theorem clearCaches_gpr (s : State) : (clearCaches s).gpr = s.gpr := by rfl
@[simp] theorem clearCaches_pc (s : State) : (clearCaches s).pc = s.pc := by rfl
@[simp] theorem clearCaches_stack (s : State) : (clearCaches s).stack = s.stack := by rfl
@[simp] theorem clearCaches_sp (s : State) : (clearCaches s).sp = s.sp := by rfl
@[simp] theorem clearCaches_pcBackup (s : State) : (clearCaches s).pcBackup = s.pcBackup := by rfl
@[simp] theorem clearCaches_intDisabled (s : State) : (clearCaches s).intDisabled = s.intDisabled := by rfl
@[simp] theorem clearCaches_intId (s : State) : (clearCaches s).intId = s.intId := by rfl
@[simp] theorem clearCaches_fpr (s : State) : (clearCaches s).fpr = s.fpr := by rfl
@[simp] theorem clearCaches_mem (s : State) : (clearCaches s).mem = s.mem := by rfl
@[simp] theorem clearCaches_rom (s : State) : (clearCaches s).rom = s.rom := by rfl
@[simp] theorem clearCaches_pending (s : State) : (clearCaches s).pending = s.pending := by rfl
@[simp] theorem clearCaches_irqEnv (s : State) : (clearCaches s).irqEnv = s.irqEnv := by rfl
@[simp] theorem clearCaches_irqDraws (s : State) : (clearCaches s).irqDraws = s.irqDraws := by rfl
@[simp] theorem clearCaches_storesSinceCcache (s : State) : (clearCaches s).storesSinceCcache = [] := by rfl
@[simp] theorem clearCaches_deviceLog (s : State) : (clearCaches s).deviceLog = s.deviceLog := by rfl
@[simp] theorem clearCaches_raceCount (s : State) : (clearCaches s).raceCount = s.raceCount := by rfl

/-! ### raiseRequests -/

@[simp] theorem raiseRequests_gpr (s : State) : (raiseRequests s).gpr = s.gpr := by rfl
@[simp] theorem raiseRequests_pc (s : State) : (raiseRequests s).pc = s.pc := by rfl
@[simp] theorem raiseRequests_stack (s : State) : (raiseRequests s).stack = s.stack := by rfl
@[simp] theorem raiseRequests_sp (s : State) : (raiseRequests s).sp = s.sp := by rfl
@[simp] theorem raiseRequests_pcBackup (s : State) : (raiseRequests s).pcBackup = s.pcBackup := by rfl
@[simp] theorem raiseRequests_intDisabled (s : State) : (raiseRequests s).intDisabled = s.intDisabled := by rfl
@[simp] theorem raiseRequests_intId (s : State) : (raiseRequests s).intId = s.intId := by rfl
@[simp] theorem raiseRequests_fpr (s : State) : (raiseRequests s).fpr = s.fpr := by rfl
@[simp] theorem raiseRequests_mem (s : State) : (raiseRequests s).mem = s.mem := by rfl
@[simp] theorem raiseRequests_rom (s : State) : (raiseRequests s).rom = s.rom := by rfl
@[simp] theorem raiseRequests_pending (s : State) : (raiseRequests s).pending = offered s := by rfl
@[simp] theorem raiseRequests_irqEnv (s : State) : (raiseRequests s).irqEnv = s.irqEnv.next := by rfl
@[simp] theorem raiseRequests_irqDraws (s : State) : (raiseRequests s).irqDraws = s.irqDraws + s.irqEnv.draws := by rfl
@[simp] theorem raiseRequests_storesSinceCcache (s : State) : (raiseRequests s).storesSinceCcache = s.storesSinceCcache := by rfl
@[simp] theorem raiseRequests_deviceLog (s : State) : (raiseRequests s).deviceLog = s.deviceLog := by rfl
@[simp] theorem raiseRequests_raceCount (s : State) : (raiseRequests s).raceCount = s.raceCount := by rfl

/-! ### interruptEntry -/

@[simp] theorem interruptEntry_gpr (s : State) (k : Fin 8) (t : Word) : (interruptEntry s k t).gpr = s.gpr := by rfl
@[simp] theorem interruptEntry_pc (s : State) (k : Fin 8) (t : Word) : (interruptEntry s k t).pc = handlerAddress := by rfl
@[simp] theorem interruptEntry_stack (s : State) (k : Fin 8) (t : Word) : (interruptEntry s k t).stack = s.stack := by rfl
@[simp] theorem interruptEntry_sp (s : State) (k : Fin 8) (t : Word) : (interruptEntry s k t).sp = s.sp := by rfl
@[simp] theorem interruptEntry_pcBackup (s : State) (k : Fin 8) (t : Word) : (interruptEntry s k t).pcBackup = t := by rfl
@[simp] theorem interruptEntry_intDisabled (s : State) (k : Fin 8) (t : Word) : (interruptEntry s k t).intDisabled = true := by rfl
@[simp] theorem interruptEntry_intId (s : State) (k : Fin 8) (t : Word) : (interruptEntry s k t).intId = BitVec.ofNat 4 (k.val + 1) := by rfl
@[simp] theorem interruptEntry_fpr (s : State) (k : Fin 8) (t : Word) : (interruptEntry s k t).fpr = s.fpr := by rfl
@[simp] theorem interruptEntry_mem (s : State) (k : Fin 8) (t : Word) : (interruptEntry s k t).mem = s.mem := by rfl
@[simp] theorem interruptEntry_rom (s : State) (k : Fin 8) (t : Word) : (interruptEntry s k t).rom = s.rom := by rfl
@[simp] theorem interruptEntry_pending (s : State) (k : Fin 8) (t : Word) : (interruptEntry s k t).pending = s.pending &&& ~~~(1#8 <<< k.val) := by rfl
@[simp] theorem interruptEntry_irqEnv (s : State) (k : Fin 8) (t : Word) : (interruptEntry s k t).irqEnv = s.irqEnv := by rfl
@[simp] theorem interruptEntry_irqDraws (s : State) (k : Fin 8) (t : Word) : (interruptEntry s k t).irqDraws = s.irqDraws := by rfl
@[simp] theorem interruptEntry_storesSinceCcache (s : State) (k : Fin 8) (t : Word) : (interruptEntry s k t).storesSinceCcache = s.storesSinceCcache := by rfl
@[simp] theorem interruptEntry_deviceLog (s : State) (k : Fin 8) (t : Word) : (interruptEntry s k t).deviceLog = s.deviceLog := by rfl
@[simp] theorem interruptEntry_raceCount (s : State) (k : Fin 8) (t : Word) : (interruptEntry s k t).raceCount = s.raceCount := by rfl

/-! ### returnFromInterrupt -/

@[simp] theorem returnFromInterrupt_gpr (s : State) : (returnFromInterrupt s).gpr = s.gpr := by rfl
@[simp] theorem returnFromInterrupt_pc (s : State) : (returnFromInterrupt s).pc = s.pcBackup := by rfl
@[simp] theorem returnFromInterrupt_stack (s : State) : (returnFromInterrupt s).stack = s.stack := by rfl
@[simp] theorem returnFromInterrupt_sp (s : State) : (returnFromInterrupt s).sp = s.sp := by rfl
@[simp] theorem returnFromInterrupt_pcBackup (s : State) : (returnFromInterrupt s).pcBackup = s.pcBackup := by rfl
@[simp] theorem returnFromInterrupt_intDisabled (s : State) : (returnFromInterrupt s).intDisabled = false := by rfl
@[simp] theorem returnFromInterrupt_intId (s : State) : (returnFromInterrupt s).intId = s.intId := by rfl
@[simp] theorem returnFromInterrupt_fpr (s : State) : (returnFromInterrupt s).fpr = s.fpr := by rfl
@[simp] theorem returnFromInterrupt_mem (s : State) : (returnFromInterrupt s).mem = s.mem := by rfl
@[simp] theorem returnFromInterrupt_rom (s : State) : (returnFromInterrupt s).rom = s.rom := by rfl
@[simp] theorem returnFromInterrupt_pending (s : State) : (returnFromInterrupt s).pending = s.pending := by rfl
@[simp] theorem returnFromInterrupt_irqEnv (s : State) : (returnFromInterrupt s).irqEnv = s.irqEnv := by rfl
@[simp] theorem returnFromInterrupt_irqDraws (s : State) : (returnFromInterrupt s).irqDraws = s.irqDraws := by rfl
@[simp] theorem returnFromInterrupt_storesSinceCcache (s : State) : (returnFromInterrupt s).storesSinceCcache = s.storesSinceCcache := by rfl
@[simp] theorem returnFromInterrupt_deviceLog (s : State) : (returnFromInterrupt s).deviceLog = s.deviceLog := by rfl
@[simp] theorem returnFromInterrupt_raceCount (s : State) : (returnFromInterrupt s).raceCount = s.raceCount := by rfl

/-! ### takeJump -/

@[simp] theorem takeJump_gpr (s : State) (t : Word) : (takeJump s t).gpr = s.gpr := by
  unfold takeJump
  split
  · simp
  · split <;> simp
@[simp] theorem takeJump_stack (s : State) (t : Word) : (takeJump s t).stack = s.stack := by
  unfold takeJump
  split
  · simp
  · split <;> simp
@[simp] theorem takeJump_sp (s : State) (t : Word) : (takeJump s t).sp = s.sp := by
  unfold takeJump
  split
  · simp
  · split <;> simp
@[simp] theorem takeJump_fpr (s : State) (t : Word) : (takeJump s t).fpr = s.fpr := by
  unfold takeJump
  split
  · simp
  · split <;> simp
@[simp] theorem takeJump_mem (s : State) (t : Word) : (takeJump s t).mem = s.mem := by
  unfold takeJump
  split
  · simp
  · split <;> simp
@[simp] theorem takeJump_rom (s : State) (t : Word) : (takeJump s t).rom = s.rom := by
  unfold takeJump
  split
  · simp
  · split <;> simp
@[simp] theorem takeJump_storesSinceCcache (s : State) (t : Word) : (takeJump s t).storesSinceCcache = s.storesSinceCcache := by
  unfold takeJump
  split
  · simp
  · split <;> simp
@[simp] theorem takeJump_deviceLog (s : State) (t : Word) : (takeJump s t).deviceLog = s.deviceLog := by
  unfold takeJump
  split
  · simp
  · split <;> simp
@[simp] theorem takeJump_raceCount (s : State) (t : Word) : (takeJump s t).raceCount = s.raceCount := by
  unfold takeJump
  split
  · simp
  · split <;> simp

end Sys2Proof.Machine
end

