-- ==== Sys2Proof/Laws/Ops.lean ====
section
/-! SUPPORT. One lemma for each shared operation that says all it can do; proofs cite these and do not unfold the operations. -/

namespace Sys2Proof.Machine

/-! ## Registers -/

@[simp] theorem readReg_zero (s : State) : readReg s 0#4 = 0#32 := by simp [readReg]

theorem readReg_congr {s t : State} (h : t.gpr = s.gpr) (r : Reg) : readReg t r = readReg s r := by
  simp only [readReg, h]

theorem readReg_writeReg (s : State) (d r : Reg) (v : Word) :
    readReg (writeReg s d v) r = if r = d ∧ d ≠ 0#4 then v else readReg s r := by
  unfold writeReg
  split
  · simp_all
  · rename_i hd
    simp only [readReg, State.setGpr_gpr, Vector.getElem_set]
    by_cases hr : r = 0#4
    · subst hr
      have : ¬ (0#4 = d) := fun h => hd h.symm
      simp [this]
    · have h1 : r.toNat ≠ 0 := fun h => hr (BitVec.eq_of_toNat_eq (by simpa using h))
      have h2 : d.toNat ≠ 0 := fun h => hd (BitVec.eq_of_toNat_eq (by simpa using h))
      have h3 : (d.toNat - 1 = r.toNat - 1) ↔ r = d :=
        ⟨fun h => BitVec.eq_of_toNat_eq (by omega), fun h => by rw [h]⟩
      simp [hr, hd, h3]

theorem readF_congr {s t : State} (h : t.fpr = s.fpr) (f : FReg) : readF t f = readF s f := by
  simp only [readF, h]

theorem readF_writeF (s : State) (d f : FReg) (v : FWord) :
    readF (writeF s d v) f = if f.toNat % 8 = d.toNat % 8 then v else readF s f := by
  simp only [readF, writeF, State.setFpr_fpr, Vector.getElem_set]
  simp only [eq_comm]

theorem stackAt_congr {s t : State} (h : t.stack = s.stack) (i : BitVec 8) : stackAt t i = stackAt s i := by
  simp only [stackAt, h]

theorem stackAt_pushStack (s : State) (v : Word) (i : BitVec 8) :
    stackAt (pushStack s v) i = if i = s.sp then v else stackAt s i := by
  simp only [stackAt, pushStack, State.setSp_stack, State.setStack_stack, Vector.getElem_set]
  have : s.sp.toNat = i.toNat ↔ i = s.sp := ⟨fun h => BitVec.eq_of_toNat_eq h.symm, fun h => by rw [h]⟩
  simp [this]

/-! ## Memory -/

theorem Memory.read_write (m : Memory) (a x : Nat) (b : Byte) :
    Memory.read (Memory.write m a b) x = if x = a then some b else Memory.read m x := by
  induction m with
  | nil => simp [Memory.write, Memory.read]
  | cons c m ih =>
    obtain ⟨k, c⟩ := c
    simp only [Memory.write]
    split
    · simp [Memory.read]
    · split
      · rename_i h; subst h
        simp only [Memory.read]
        split <;> simp_all
      · simp only [Memory.read, ih]
        split
        · rename_i h; subst h
          simp_all [eq_comm]
        · rfl

theorem Memory.read_writeBytes_below (m : Memory) (a x : Nat) (bs : List Byte) (h : x < a) :
    Memory.read (Memory.writeBytes m a bs) x = Memory.read m x := by
  induction bs generalizing m a with
  | nil => rfl
  | cons b bs ih =>
    rw [Memory.writeBytes, ih _ _ (by omega), Memory.read_write, if_neg (by omega)]

theorem Memory.read_writeBytes_above (m : Memory) (a x : Nat) (bs : List Byte) (h : a + bs.length ≤ x) :
    Memory.read (Memory.writeBytes m a bs) x = Memory.read m x := by
  induction bs generalizing m a with
  | nil => rfl
  | cons b bs ih =>
    simp only [List.length_cons] at h
    rw [Memory.writeBytes, ih _ _ (by omega), Memory.read_write, if_neg (by omega)]

theorem Memory.read_writeBytes_at (m : Memory) (a k : Nat) (bs : List Byte) (h : k < bs.length) :
    Memory.read (Memory.writeBytes m a bs) (a + k) = some bs[k] := by
  induction bs generalizing m a k with
  | nil => simp at h
  | cons b bs ih =>
    cases k with
    | zero => simp [Memory.writeBytes, Memory.read_writeBytes_below, Memory.read_write]
    | succ k =>
      simp only [List.length_cons] at h
      have := ih (Memory.write m a b) (a + 1) k (by omega)
      rw [Memory.writeBytes, show a + (k + 1) = a + 1 + k by omega, this]
      rfl

theorem Memory.mem_write {m : Memory} {a : Nat} {b : Byte} {c : Host.Cell} (h : c ∈ Memory.write m a b) :
    c = (a, b) ∨ c ∈ m := by
  induction m with
  | nil => simpa [Memory.write] using h
  | cons d m ih =>
    obtain ⟨k, e⟩ := d
    simp only [Memory.write] at h
    split at h
    · simpa using h
    · split at h
      · simp only [List.mem_cons] at h ⊢
        tauto
      · simp only [List.mem_cons] at h ⊢
        rcases h with h | h
        · exact .inr (.inl h)
        · rcases ih h with h | h
          · exact .inl h
          · exact .inr (.inr h)

theorem Memory.mem_writeBytes {m : Memory} {a : Nat} {bs : List Byte} {c : Host.Cell}
    (h : c ∈ Memory.writeBytes m a bs) : (a ≤ c.1 ∧ c.1 < a + bs.length) ∨ c ∈ m := by
  induction bs generalizing m a with
  | nil => exact .inr h
  | cons b bs ih =>
    simp only [Memory.writeBytes] at h
    rcases ih h with h | h
    · left; simp only [List.length_cons]; omega
    · rcases Memory.mem_write h with h | h
      · left; subst h; simp
      · exact .inr h

theorem Memory.write_wf {m : Memory} (h : Memory.wf m) (a : Nat) (b : Byte) : Memory.wf (Memory.write m a b) := by
  induction m with
  | nil => simp [Memory.write, Memory.wf]
  | cons c m ih =>
    obtain ⟨k, c⟩ := c
    simp only [Memory.wf, List.pairwise_cons] at h
    simp only [Memory.write]
    split
    · rename_i hk
      simp only [Memory.wf, List.pairwise_cons, List.mem_cons, forall_eq_or_imp]
      exact ⟨⟨hk, fun x hx => lt_trans hk (h.1 x hx)⟩, h.1, h.2⟩
    · split
      · rename_i hk; subst hk
        simp only [Memory.wf, List.pairwise_cons]
        exact ⟨h.1, h.2⟩
      · simp only [Memory.wf, List.pairwise_cons]
        refine ⟨fun x hx => ?_, ih h.2⟩
        rcases Memory.mem_write hx with hx | hx
        · subst hx; show k < a; omega
        · exact h.1 x hx

theorem Memory.writeBytes_wf {m : Memory} (h : Memory.wf m) (a : Nat) (bs : List Byte) :
    Memory.wf (Memory.writeBytes m a bs) := by
  induction bs generalizing m a with
  | nil => exact h
  | cons b bs ih => exact ih (Memory.write_wf h a b) (a + 1)

theorem loadWord_eq_some {m : Memory} {a : Nat} {v : Word} :
    loadWord m a = some v ↔ ∃ b0 b1 b2 b3, Memory.read m a = some b0 ∧ Memory.read m (a + 1) = some b1 ∧
      Memory.read m (a + 2) = some b2 ∧ Memory.read m (a + 3) = some b3 ∧ wordOfBytes b0 b1 b2 b3 = v := by
  unfold loadWord
  constructor
  · intro h
    split at h
    · rename_i b0 b1 b2 b3 h0 h1 h2 h3
      exact ⟨b0, b1, b2, b3, h0, h1, h2, h3, by simpa using h⟩
    · simp at h
  · rintro ⟨b0, b1, b2, b3, h0, h1, h2, h3, rfl⟩
    simp [h0, h1, h2, h3]

theorem loadHalf_eq_some {m : Memory} {a : Nat} {v : BitVec 16} :
    loadHalf m a = some v ↔ ∃ b0 b1, Memory.read m a = some b0 ∧ Memory.read m (a + 1) = some b1 ∧
      halfOfBytes b0 b1 = v := by
  unfold loadHalf
  constructor
  · intro h
    split at h
    · rename_i b0 b1 h0 h1
      exact ⟨b0, b1, h0, h1, by simpa using h⟩
    · simp at h
  · rintro ⟨b0, b1, h0, h1, rfl⟩
    simp [h0, h1]

theorem wordOfBytes_bytesOfWord (v : Word) :
    ∃ b0 b1 b2 b3, bytesOfWord v = [b0, b1, b2, b3] ∧ wordOfBytes b0 b1 b2 b3 = v := by
  refine ⟨_, _, _, _, rfl, ?_⟩
  simp only [wordOfBytes, byteOrder]
  apply BitVec.eq_of_getLsbD_eq
  intro i hi
  simp only [BitVec.getLsbD_append, BitVec.getLsbD_extractLsb']
  by_cases h1 : i < 8
  · simp [h1]
  · by_cases h2 : i < 16
    · simp [h1, show i - 8 < 8 by omega, show 8 + (i - 8) = i by omega]
    · by_cases h3 : i < 24
      · simp [h1, show ¬ i - 8 < 8 by omega, show i - 8 - 8 < 8 by omega, show 16 + (i - 8 - 8) = i by omega]
      · simp [h1, show ¬ i - 8 < 8 by omega, show ¬ i - 8 - 8 < 8 by omega, show i - 8 - 8 - 8 < 8 by omega,
          show 24 + (i - 8 - 8 - 8) = i by omega]

@[simp] theorem bytesOfWord_length (v : Word) : (bytesOfWord v).length = 4 := rfl

@[simp] theorem bytesOfHalf_length (v : BitVec 16) : (bytesOfHalf v).length = 2 := rfl

theorem loadWord_writeBytes (m : Memory) (a : Nat) (v : Word) :
    loadWord (Memory.writeBytes m a (bytesOfWord v)) a = some v := by
  obtain ⟨b0, b1, b2, b3, hb, hv⟩ := wordOfBytes_bytesOfWord v
  rw [loadWord_eq_some]
  refine ⟨b0, b1, b2, b3, ?_, ?_, ?_, ?_, hv⟩
  · have := Memory.read_writeBytes_at m a 0 (bytesOfWord v) (by simp)
    simpa [hb] using this
  · have := Memory.read_writeBytes_at m a 1 (bytesOfWord v) (by simp)
    simpa [hb] using this
  · have := Memory.read_writeBytes_at m a 2 (bytesOfWord v) (by simp)
    simpa [hb] using this
  · have := Memory.read_writeBytes_at m a 3 (bytesOfWord v) (by simp)
    simpa [hb] using this

/-! ## The address map -/

theorem regionOf_sdram {a : Nat} : regionOf a = .sdram ↔ a ≤ 0x03FFFFFF := by
  unfold regionOf
  split_ifs <;> simp_all

theorem regionOf_rom {a : Nat} : regionOf a = .rom ↔ 0x1E000000 ≤ a ∧ a ≤ 0x1E000FFF := by
  unfold regionOf
  split_ifs <;> simp <;> omega

theorem regionOf_internal {a : Nat} : regionOf a = .internal ↔ 0x1F000000 ≤ a ∧ a ≤ 0x1F000007 := by
  unfold regionOf
  split_ifs <;> simp <;> omega

/-- The bytes of an aligned store that begins in SDRAM are in SDRAM (20_memory.md R46). -/
theorem store_stays_in_sdram {ea : Word} {n : Nat} (hn : n = 1 ∨ n = 2 ∨ n = 4) (h : regionOf (alignDown ea n) = .sdram)
    {x : Nat} (h1 : alignDown ea n ≤ x) (h2 : x < alignDown ea n + n) : regionOf x = .sdram := by
  rw [regionOf_sdram] at h ⊢
  unfold alignDown at h h1 h2
  rcases hn with rfl | rfl | rfl <;> omega

/-! ## One byte of memory, and the boot ROM -/

/-- A byte reads the same in states with the same SDRAM and ROM. -/
theorem readByte_congr {s t : State} (hm : t.mem = s.mem) (hr : t.rom = s.rom) (a : Nat) : readByte t a = readByte s a := by
  simp only [readByte, romByte, hm, hr]

theorem readByte_sdram (s : State) {a : Nat} (h : regionOf a = .sdram) : readByte s a = Memory.read s.mem a := by
  simp [readByte, h]

/-- Every byte of the ROM has a value (20_memory.md R37). -/
theorem readByte_rom (s : State) {a : Nat} (h : regionOf a = .rom) : readByte s a = some (romByte s a) := by
  simp [readByte, h]

/-- The bytes of an aligned word that begins in the ROM are in the ROM (20_memory.md R46). -/
theorem word_stays_in_rom {a x : Nat} (h4 : a % 4 = 0) (h : regionOf a = .rom) (h1 : a ≤ x) (h2 : x < a + 4) :
    regionOf x = .rom := by
  rw [regionOf_rom] at h ⊢
  omega

/-- The word of the ROM at an aligned address is made of the four bytes there (20_memory.md R34). -/
theorem romWord_of_bytes {s : State} {a : Nat} {b0 b1 b2 b3 : Byte} (h4 : a % 4 = 0) (h : regionOf a = .rom)
    (h0 : readByte s a = some b0) (h1 : readByte s (a + 1) = some b1) (h2 : readByte s (a + 2) = some b2)
    (h3 : readByte s (a + 3) = some b3) : romWord s a = wordOfBytes b0 b1 b2 b3 := by
  rw [readByte_rom s (word_stays_in_rom h4 h (by omega) (by omega))] at h0 h1 h2 h3
  simp only [romWord, Option.some.inj h0, Option.some.inj h1, Option.some.inj h2, Option.some.inj h3]

/-- The word of SDRAM at an aligned address is made of the four bytes there, where they have a value (20_memory.md R34). -/
theorem loadWord_of_bytes {s : State} {a : Nat} {b0 b1 b2 b3 : Byte} (h4 : a % 4 = 0) (h : regionOf a = .sdram)
    (h0 : readByte s a = some b0) (h1 : readByte s (a + 1) = some b1) (h2 : readByte s (a + 2) = some b2)
    (h3 : readByte s (a + 3) = some b3) : loadWord s.mem a = some (wordOfBytes b0 b1 b2 b3) := by
  have key : ∀ x, a ≤ x → x < a + 4 → regionOf x = .sdram := fun x _ _ => by
    rw [regionOf_sdram] at h ⊢
    omega
  rw [readByte_sdram s (key _ (by omega) (by omega))] at h0 h1 h2 h3
  exact loadWord_eq_some.2 ⟨b0, b1, b2, b3, h0, h1, h2, h3, rfl⟩

/-! ## MemRead and MemWrite -/

/-- All that a word read can answer when it completes (20_memory.md R37). -/
theorem memReadWord_next {s : State} {ea v : Word} {t : State} (h : memReadWord s ea = .next (v, t)) :
    (regionOf (alignDown ea 4) = .sdram ∧ loadWord s.mem (alignDown ea 4) = some v ∧ t = s) ∨
    (regionOf (alignDown ea 4) = .rom ∧ v = romWord s (alignDown ea 4) ∧ t = s) ∨
    (v = Config.deviceRead s.deviceLog (alignDown ea 4) ∧ t = (deviceLoad s (alignDown ea 4)).2) ∨
    (regionOf (alignDown ea 4) = .internal ∧ v = internalLoad s (alignDown ea 4) ∧ t = s) := by
  unfold memReadWord at h
  split at h
  · left
    split at h <;> simp_all
  · obtain ⟨rfl, rfl⟩ := Prod.mk.inj (Host.Outcome.next.inj h)
    exact .inr (.inl ⟨‹_›, rfl, rfl⟩)
  iterate 4
    · obtain ⟨rfl, rfl⟩ := Prod.mk.inj (Host.Outcome.next.inj h)
      exact .inr (.inr (.inl ⟨rfl, rfl⟩))
  · obtain ⟨rfl, rfl⟩ := Prod.mk.inj (Host.Outcome.next.inj h)
    exact .inr (.inr (.inr ⟨‹_›, rfl, rfl⟩))
  · simp at h

/-- All that a word write can answer when it completes (20_memory.md R38). -/
theorem memWriteWord_next {s t : State} {ea v : Word} (h : memWriteWord s ea v = .next t) :
    (regionOf (alignDown ea 4) = .sdram ∧ t = storeSdram s (alignDown ea 4) (bytesOfWord v)) ∨
    t = deviceStore s (alignDown ea 4) v ∨
    (regionOf (alignDown ea 4) = .internal ∧ t = internalStore s (alignDown ea 4) v) := by
  unfold memWriteWord at h
  split at h <;> simp_all

/-- All that a sub-word write can answer when it completes (20_memory.md R38). -/
theorem subWordStore_next {s t : State} {a : Nat} {bs : List Byte} (h : subWordStore s a bs = .next t) :
    regionOf a = .sdram ∧ t = storeSdram s a bs := by
  unfold subWordStore at h
  split at h <;> simp_all

/-- All that a sub-word read can answer when it completes (20_memory.md R37). -/
theorem subWordLoad_next {α : Type} {a : Nat} {o : Option α} {v : α} (h : subWordLoad a o = .next v) :
    regionOf a = .sdram ∧ o = some v := by
  unfold subWordLoad at h
  split at h
  · split at h <;> simp_all
  all_goals simp_all

/-- What it takes for a sequence to complete. -/
theorem andThen_next {α β : Type} {r : Res α} {f : α → Res β} {b : β} (h : andThen r f = .next b) :
    ∃ a, r = .next a ∧ f a = .next b := by
  unfold andThen at h
  split at h
  · exact ⟨_, rfl, h⟩
  all_goals simp at h

@[simp] theorem andThen_ok {α β : Type} (a : α) (f : α → Res β) : andThen (.next a) f = f a := rfl

@[simp] theorem andThen_fault {α β : Type} (e : Fault) (f : α → Res β) : andThen (.fault e) f = .fault e := rfl

@[simp] theorem andThen_refused {α β : Type} (e : Refusal) (f : α → Res β) : andThen (.refused e) f = .refused e := rfl

/-! ## Fetch -/

/-- A fetch changes nothing but, in a race, the counter of races (20_memory.md R52). -/
theorem fetchWord_next {s t : State} {w : Word} (h : fetchWord s = .next (w, t)) :
    t = s ∨ t = s.setRaceCount (s.raceCount + 1) := by
  unfold fetchWord at h
  split at h
  · simp at h
  · split at h
    all_goals first
      | exact .inl (Prod.mk.inj (Host.Outcome.next.inj h)).2.symm
      | simp at h
      | (unfold fetchSdram fetched at h; repeat' (split at h)
         all_goals simp_all)

/-- A fetch that completes reads an aligned word of SDRAM or ROM (20_memory.md R33, R36). -/
theorem fetchWord_place {s t : State} {w : Word} (h : fetchWord s = .next (w, t)) :
    s.pc.toNat % 4 = 0 ∧ (regionOf s.pc.toNat = .sdram ∨ regionOf s.pc.toNat = .rom) := by
  unfold fetchWord at h
  split at h
  · simp at h
  · refine ⟨by omega, ?_⟩
    split at h <;> simp_all

/-! ## Taken jumps -/

/-- A schedule given is what is raised (60_exceptions.md R203). -/
theorem raisedNow_schedule {s : State} {l : List (BitVec 8)} (h : s.irqEnv = .schedule l) : raisedNow s = l.headD 0#8 := by
  simp [raisedNow, h]

/-- The free environment raises no line that has no source (60_exceptions.md R203 (c)). -/
theorem raisedNow_free {s : State} (h : s.irqEnv = .free) {k : Nat} (hk : 6 ≤ k) : (raisedNow s).getLsbD k = false := by
  have key : sourcedLines.getLsbD k = false := by
    by_cases h8 : k < 8
    · have : k = 6 ∨ k = 7 := by omega
      rcases this with rfl | rfl <;> rfl
    · exact BitVec.getLsbD_of_ge _ _ (by omega)
  simp [raisedNow, h, key]

/-- All that `TakeJump` can do (60_exceptions.md R206). -/
theorem takeJump_cases (s : State) (t : Word) :
    (s.intDisabled = true ∧ takeJump s t = s.setPc t) ∨
    (s.intDisabled = false ∧ firstLine (offered s) = none ∧ takeJump s t = (raiseRequests s).setPc t) ∨
    (∃ k, s.intDisabled = false ∧ firstLine (offered s) = some k ∧ takeJump s t = interruptEntry (raiseRequests s) k t) := by
  unfold takeJump
  by_cases hd : s.intDisabled = true
  · simp [hd]
  · simp only [Bool.not_eq_true] at hd
    cases hf : firstLine (offered s) with
    | none => simp [hd]
    | some k => simp [hd]

/-- The line chosen is requested and no lower line is (60_exceptions.md R205). -/
theorem firstLine_some (p : BitVec 8) (k : Fin 8) (h : firstLine p = some k) :
    p.getLsbD k.val = true ∧ ∀ j : Fin 8, j < k → p.getLsbD j.val = false := by
  revert p k
  decide +kernel

theorem firstLine_none (p : BitVec 8) : firstLine p = none ↔ p = 0#8 := by
  revert p
  decide +kernel

end Sys2Proof.Machine
end

