-- ==== Sys2Proof/Laws/Effects.lean ====
section
/-! SUPPORT. The whole effect of each way an instruction can end, in the terms of Safety.lean: a result in a register, a store, a taken
jump, going on. -/

namespace Sys2Proof.Machine

/-- The constant operand of the model is the one of the statements. -/
theorem sext16_eq_constOperand (c : Const16) : sext16 c = constOperand c := rfl

/-- The effective address of the model is the one of the statements. -/
theorem effAddr_toNat (s : State) (a : Reg) (c : Const16) : (effAddr s a c).toNat = addrOf s a c := by
  simp [effAddr, addrOf, sext16_eq_constOperand]

theorem readReg_advance_writeReg (s : State) (d r : Reg) (v : Word) :
    readReg (advance (writeReg s d v)) r = if r = d ∧ d ≠ 0#4 then v else readReg s r := by
  rw [readReg_congr (advance_gpr _)]
  exact readReg_writeReg s d r v

/-- A result in a general register. -/
theorem regResult_advance_writeReg (s : State) (d : Reg) (v : Word) : RegResult s (advance (writeReg s d v)) d v where
  regs r := readReg_advance_writeReg s d r v
  pc := by simp
  fregs f := readF_congr (by simp) f
  stack := ⟨fun i => stackAt_congr (by simp) i, by simp⟩
  interrupts := by simp [KeepsInterrupts, KeepsRequests]
  fetch := by simp [KeepsFetch]
  devices := by simp [KeepsDevices]
  memory a := readByte_congr (by simp) (by simp) a

/-- A result in an FP64 register. -/
theorem fregResult_advance_writeF (s : State) (d : FReg) (v : FWord) : FRegResult s (advance (writeF s d v)) d v where
  fregs f := by rw [readF_congr (advance_fpr _)]; exact readF_writeF s d f v
  pc := by simp
  regs r := readReg_congr (by simp) r
  stack := ⟨fun i => stackAt_congr (by simp) i, by simp⟩
  interrupts := by simp [KeepsInterrupts, KeepsRequests]
  fetch := by simp [KeepsFetch]
  devices := by simp [KeepsDevices]
  memory a := readByte_congr (by simp) (by simp) a

/-- Nothing but the program counter. -/
theorem goesOn_advance (s : State) : GoesOn s (advance s) where
  pc := by simp
  regs r := readReg_congr (by simp) r
  fregs f := readF_congr (by simp) f
  stack := ⟨fun i => stackAt_congr (by simp) i, by simp⟩
  interrupts := by simp [KeepsInterrupts, KeepsRequests]
  fetch := by simp [KeepsFetch]
  devices := by simp [KeepsDevices]
  memory a := readByte_congr (by simp) (by simp) a

/-- A byte after a store whose bytes are all in SDRAM. -/
theorem readByte_advance_storeSdram (s : State) (a : Nat) (bs : List Byte) (x : Nat) :
    readByte (advance (storeSdram s a bs)) x =
      if regionOf x = .rom then some (romByte s x) else Memory.read (Memory.writeBytes s.mem a bs) x := rfl

/-- A store to SDRAM. -/
theorem storeResult_advance_storeSdram (s : State) (a : Nat) (bs : List Byte)
    (hr : ∀ k, k < bs.length → regionOf (a + k) = .sdram) : StoreResult s (advance (storeSdram s a bs)) a bs where
  stored k h := by
    rw [readByte_advance_storeSdram, if_neg (by simp [hr k h])]
    exact Memory.read_writeBytes_at s.mem a k bs h
  memory x hx := by
    rw [readByte_advance_storeSdram, readByte,
      hx.elim (Memory.read_writeBytes_below s.mem a x bs) (Memory.read_writeBytes_above s.mem a x bs)]
  recorded := rfl
  races := rfl
  pc := rfl
  regs r := readReg_congr (by simp [storeSdram]) r
  fregs f := readF_congr (by simp [storeSdram]) f
  stack := ⟨fun i => stackAt_congr (by simp [storeSdram]) i, by simp [storeSdram]⟩
  interrupts := by simp [KeepsInterrupts, KeepsRequests, storeSdram]
  devices := by simp [KeepsDevices, storeSdram]

/-- What no taken jump touches. -/
theorem takeJump_frame (s : State) (t : Word) :
    (takeJump s t).gpr = s.gpr ∧ (takeJump s t).fpr = s.fpr ∧ (takeJump s t).stack = s.stack ∧ (takeJump s t).sp = s.sp ∧
    (takeJump s t).storesSinceCcache = s.storesSinceCcache ∧ (takeJump s t).raceCount = s.raceCount ∧
    (takeJump s t).deviceLog = s.deviceLog ∧ (takeJump s t).mem = s.mem ∧ (takeJump s t).rom = s.rom := by
  rcases takeJump_cases s t with ⟨_, h⟩ | ⟨_, _, h⟩ | ⟨k, _, _, h⟩ <;> rw [h] <;> simp

/-- The line the statements call the lowest is the line taken (60_exceptions.md R205). -/
theorem firstLine_of_lowestLine {p : BitVec 8} {k : Nat} (h : LowestLine p k) : ∃ hk : k < 8, firstLine p = some ⟨k, hk⟩ := by
  have key : ∀ (p : BitVec 8) (k : Fin 8), p.getLsbD k.val = true → (∀ j : Fin 8, j < k → p.getLsbD j.val = false) →
      firstLine p = some k := by decide +kernel
  exact ⟨h.1, key p ⟨k, h.1⟩ h.2.1 fun j hj => h.2.2 j.val hj⟩

/-- The request taken is cleared and no other (60_exceptions.md R207). -/
theorem getLsbD_clearLine (p : BitVec 8) (k : Fin 8) (j : Nat) (hj : j < 8) :
    (p &&& ~~~(1#8 <<< k.val)).getLsbD j = (p.getLsbD j && j != k.val) := by
  have key : ∀ j k : Fin 8, (~~~(1#8 <<< k.val)).getLsbD j.val = (j.val != k.val) := by decide
  rw [BitVec.getLsbD_and, key ⟨j, hj⟩ k]

theorem environmentMovesOn_raiseRequests {s t : State} (he : t.irqEnv = (raiseRequests s).irqEnv)
    (hd : t.irqDraws = (raiseRequests s).irqDraws) : EnvironmentMovesOn s t where
  free h := by simp [he, hd, h, InterruptEnv.next, InterruptEnv.draws]
  schedule l h := by simp [he, hd, h, InterruptEnv.next, InterruptEnv.draws]

/-- A taken jump or branch. -/
theorem jumpResult_takeJump (s : State) (t : Word) : JumpResult s (takeJump s t) t := by
  obtain ⟨f1, f2, f3, f4, f5, f6, f7, f8, f9⟩ := takeJump_frame s t
  refine ⟨fun h => by simp [takeJump, h, KeepsInterrupts, KeepsRequests], fun h1 h2 => ?_, fun k h1 h2 => ?_, fun r => readReg_congr f1 r,
    fun r => readF_congr f2 r, ⟨fun i => stackAt_congr f3 i, f4⟩, ⟨f5, f6⟩, f7, readByte_congr f8 f9⟩
  · have h3 := (firstLine_none (offered s)).2 h2
    unfold takeJump
    rw [h1, h3]
    refine ⟨by simp, by simp, by simp [h1], by simp, by simp [h2], environmentMovesOn_raiseRequests (s := s) (by simp) (by simp)⟩
  · obtain ⟨hk, h3⟩ := firstLine_of_lowestLine h2
    have h4 : takeJump s t = interruptEntry (raiseRequests s) ⟨k, hk⟩ t := by simp only [takeJump, h1, h3, Bool.false_eq_true, if_false]
    rw [h4]
    refine ⟨rfl, rfl, rfl, ?_, fun j hj => getLsbD_clearLine (offered s) ⟨k, hk⟩ j hj,
      environmentMovesOn_raiseRequests (by simp) (by simp)⟩
    simp [interruptEntry]
    omega

end Sys2Proof.Machine
end

