-- ==== Sys2Proof/Laws/Encoding.lean ====
section
/-! SUPPORT. What the packed words of the encoder hold in each field, and what the masks of the opcode table say of a word's fields. -/

namespace Sys2Proof

/-! ## The fields of the packed words -/

theorem packConstHigh_toNat (op : Nat) (c : Const16) (n2 n1 n0 : Nat) (h : op < 16) (h2 : n2 < 16) (h1 : n1 < 16) (h0 : n0 < 16) :
    (packConstHigh op c n2 n1 n0).toNat = op * 2 ^ 28 + c.toNat * 2 ^ 12 + n2 * 2 ^ 8 + n1 * 2 ^ 4 + n0 := by
  simp only [packConstHigh, BitVec.toNat_ofNat]
  apply Nat.mod_eq_of_lt
  omega

theorem packConstForm_toNat (op aop : Nat) (d a : Reg) (c : Const16) (h : op < 16) (h1 : aop < 16) :
    (packConstForm op aop d a c).toNat = op * 2 ^ 28 + aop * 2 ^ 24 + c.toNat * 2 ^ 8 + a.toNat * 2 ^ 4 + d.toNat := by
  simp only [packConstForm, BitVec.toNat_ofNat]
  apply Nat.mod_eq_of_lt
  omega

theorem packRegForm_toNat (op aop n2 n1 n0 : Nat) (h : op < 16) (h3 : aop < 16) (h2 : n2 < 16) (h1 : n1 < 16) (h0 : n0 < 16) :
    (packRegForm op aop n2 n1 n0).toNat = op * 2 ^ 28 + aop * 2 ^ 24 + n2 * 2 ^ 8 + n1 * 2 ^ 4 + n0 := by
  simp only [packRegForm, BitVec.toNat_ofNat]
  apply Nat.mod_eq_of_lt
  omega

theorem packJump_toNat (c : Const27) (o : Nat) (h : o < 2) : (packJump c o).toNat = 9 * 2 ^ 28 + c.toNat * 2 + o := by
  simp only [packJump, BitVec.toNat_ofNat]
  apply Nat.mod_eq_of_lt
  omega

/-- Every field of a word with a high constant (30_encoding.md R63, R64, R68, R69). -/
theorem packConstHigh_fields (op : Nat) (c : Const16) (n2 n1 n0 : Nat) (h : op < 16) (h2 : n2 < 16) (h1 : n1 < 16) (h0 : n0 < 16) :
    field (packConstHigh op c n2 n1 n0) 31 28 = op ∧ field (packConstHigh op c n2 n1 n0) 7 4 = n1 ∧
    field (packConstHigh op c n2 n1 n0) 3 0 = n0 ∧ field (packConstHigh op c n2 n1 n0) 0 0 = n0 % 2 ∧
    field (packConstHigh op c n2 n1 n0) 11 8 = n2 ∧ field (packConstHigh op c n2 n1 n0) 27 12 = c.toNat := by
  simp only [field, packConstHigh_toNat op c n2 n1 n0 h h2 h1 h0]
  omega

/-- Every field of a constant-form word (30_encoding.md R71). -/
theorem packConstForm_fields (op aop : Nat) (d a : Reg) (c : Const16) (h : op < 16) (h1 : aop < 16) :
    field (packConstForm op aop d a c) 31 28 = op ∧ field (packConstForm op aop d a c) 27 24 = aop ∧
    field (packConstForm op aop d a c) 23 8 = c.toNat ∧ field (packConstForm op aop d a c) 7 4 = a.toNat ∧
    field (packConstForm op aop d a c) 3 0 = d.toNat := by
  simp only [field, packConstForm_toNat op aop d a c h h1]
  omega

/-- Every field of a register-form word, the three-bit FP64 fields among them (30_encoding.md R71, R79). -/
theorem packRegForm_fields (op aop n2 n1 n0 : Nat) (h : op < 16) (h3 : aop < 16) (h2 : n2 < 16) (h1 : n1 < 16) (h0 : n0 < 16) :
    field (packRegForm op aop n2 n1 n0) 31 28 = op ∧ field (packRegForm op aop n2 n1 n0) 27 24 = aop ∧
    field (packRegForm op aop n2 n1 n0) 11 8 = n2 ∧ field (packRegForm op aop n2 n1 n0) 7 4 = n1 ∧
    field (packRegForm op aop n2 n1 n0) 3 0 = n0 ∧ field (packRegForm op aop n2 n1 n0) 10 8 = n2 % 8 ∧
    field (packRegForm op aop n2 n1 n0) 6 4 = n1 % 8 ∧ field (packRegForm op aop n2 n1 n0) 2 0 = n0 % 8 := by
  simp only [field, packRegForm_toNat op aop n2 n1 n0 h h3 h2 h1 h0]
  omega

/-- Every field of a JUMP word (30_encoding.md R67). -/
theorem packJump_fields (c : Const27) (o : Nat) (h : o < 2) :
    field (packJump c o) 31 28 = 9 ∧ field (packJump c o) 0 0 = o ∧ field (packJump c o) 27 1 = c.toNat := by
  simp only [field, packJump_toNat c o h]
  omega

theorem regField_of {w : Word} {lo : Nat} {r : Reg} (h : field w (lo + 3) lo = r.toNat) : regField w lo = r := by
  simp [regField, h]

theorem fregField_of {w : Word} {lo : Nat} {f : FReg} (h : field w (lo + 2) lo = f.toNat) : fregField w lo = f := by
  simp [fregField, h]

theorem const16Field_of {w : Word} {lo : Nat} {c : Const16} (h : field w (lo + 15) lo = c.toNat) : const16Field w lo = c := by
  simp [const16Field, h]

theorem const27Field_of {w : Word} {c : Const27} (h : field w 27 1 = c.toNat) : const27Field w = c := by
  simp [const27Field, h]

/-- Decoding the bytes of a word is decoding the word (30_encoding.md R60). -/
theorem decode_bytesOfWord {w : Word} {i : Instr} (h : decodeWord w = .ok i) : decode (bytesOfWord w) = .ok (i, []) := by
  obtain ⟨b0, b1, b2, b3, h1, h2⟩ := Machine.wordOfBytes_bytesOfWord w
  simp only [h1, decode, h2, h]

/-! ## The masks of the opcode table -/

/-- A run of `n` mask bits from bit `k` keeps that field in its place. -/
theorem and_run (x n k : Nat) : x &&& ((2 ^ n - 1) * 2 ^ k) = x / 2 ^ k % 2 ^ n * 2 ^ k := by
  apply Nat.eq_of_testBit_eq
  intro i
  simp only [Nat.testBit_and, Nat.testBit_mul_two_pow, Nat.testBit_two_pow_sub_one, Nat.testBit_mod_two_pow,
    Nat.testBit_div_two_pow]
  by_cases h : k ≤ i
  · simp only [h, decide_true, Bool.true_and, show i - k + k = i by omega, Bool.and_comm]
  · simp [h]

/-- A mask that is one run of bits, in the terms of `field`. -/
theorem toNat_and_run {w m : Word} {n k : Nat} (h : m.toNat = (2 ^ n - 1) * 2 ^ k) :
    (w &&& m).toNat = w.toNat / 2 ^ k % 2 ^ n * 2 ^ k := by
  rw [BitVec.toNat_and, h, and_run]

/-- A mask that is two runs of bits. -/
theorem toNat_and_runs {w m : Word} {n k n' k' : Nat} (h : m.toNat = ((2 ^ n - 1) * 2 ^ k) ||| ((2 ^ n' - 1) * 2 ^ k'))
    (hk : k' + n' ≤ k) :
    (w &&& m).toNat = w.toNat / 2 ^ k % 2 ^ n * 2 ^ k + w.toNat / 2 ^ k' % 2 ^ n' * 2 ^ k' := by
  have hlt : w.toNat / 2 ^ k' % 2 ^ n' * 2 ^ k' < 2 ^ k := by
    calc w.toNat / 2 ^ k' % 2 ^ n' * 2 ^ k' < 2 ^ n' * 2 ^ k' :=
          Nat.mul_lt_mul_of_pos_right (Nat.mod_lt _ (Nat.two_pow_pos n')) (Nat.two_pow_pos k')
      _ = 2 ^ (k' + n') := by rw [← Nat.pow_add, Nat.add_comm]
      _ ≤ 2 ^ k := Nat.pow_le_pow_right (by decide) hk
  rw [BitVec.toNat_and, h, Nat.and_or_distrib_left, and_run, and_run, Nat.mul_comm (w.toNat / 2 ^ k % 2 ^ n),
    ← Nat.two_pow_add_eq_or_of_lt hlt]

/-- Rows told by the primary opcode. -/
theorem mask_primary {w : Word} {a : Nat} (ha : a < 16) :
    w &&& 0xF0000000#32 = BitVec.ofNat 32 (a * 2 ^ 28) ↔ field w 31 28 = a := by
  rw [← BitVec.toNat_inj, toNat_and_run (n := 4) (k := 28) (by decide), BitVec.toNat_ofNat]
  simp only [field]
  omega

/-- Rows of READ: primary opcode and bits 7:4. -/
theorem mask_read {w : Word} {a b : Nat} (ha : a < 16) (hb : b < 16) :
    w &&& 0xF00000F0#32 = BitVec.ofNat 32 (a * 2 ^ 28 + b * 2 ^ 4) ↔ field w 31 28 = a ∧ field w 7 4 = b := by
  rw [← BitVec.toNat_inj, toNat_and_runs (n := 4) (k := 28) (n' := 4) (k' := 4) (by decide) (by decide), BitVec.toNat_ofNat]
  simp only [field]
  omega

/-- Rows of WRITE and the ordered branches: primary opcode and bits 3:0. -/
theorem mask_write {w : Word} {a b : Nat} (ha : a < 16) (hb : b < 16) :
    w &&& 0xF000000F#32 = BitVec.ofNat 32 (a * 2 ^ 28 + b) ↔ field w 31 28 = a ∧ field w 3 0 = b := by
  rw [← BitVec.toNat_inj, toNat_and_runs (n := 4) (k := 28) (n' := 4) (k' := 0) (by decide) (by decide), BitVec.toNat_ofNat]
  simp only [field]
  omega

/-- Rows of JUMP and JUMPR: primary opcode and bit 0. -/
theorem mask_jump {w : Word} {a b : Nat} (ha : a < 16) (hb : b < 2) :
    w &&& 0xF0000001#32 = BitVec.ofNat 32 (a * 2 ^ 28 + b) ↔ field w 31 28 = a ∧ field w 0 0 = b := by
  rw [← BitVec.toNat_inj, toNat_and_runs (n := 4) (k := 28) (n' := 1) (k' := 0) (by decide) (by decide), BitVec.toNat_ofNat]
  simp only [field]
  omega

/-- Rows of BEQ and BNE: primary opcode and bits 3:1. -/
theorem mask_branch {w : Word} {a b : Nat} (ha : a < 16) (hb : b < 8) :
    w &&& 0xF000000E#32 = BitVec.ofNat 32 (a * 2 ^ 28 + b * 2) ↔ field w 31 28 = a ∧ field w 3 0 / 2 = b := by
  rw [← BitVec.toNat_inj, toNat_and_runs (n := 4) (k := 28) (n' := 3) (k' := 1) (by decide) (by decide), BitVec.toNat_ofNat]
  simp only [field]
  omega

/-- Rows of the arithmetic formats: primary opcode and ALU opcode. -/
theorem mask_arith {w : Word} {a b : Nat} (ha : a < 16) (hb : b < 16) :
    w &&& 0xFF000000#32 = BitVec.ofNat 32 (a * 2 ^ 28 + b * 2 ^ 24) ↔ field w 31 28 = a ∧ field w 27 24 = b := by
  rw [← BitVec.toNat_inj, toNat_and_run (n := 8) (k := 24) (by decide), BitVec.toNat_ofNat]
  simp only [field]
  omega

end Sys2Proof
end

