-- ==== Sys2Proof/Laws/Inversion.lean ====
section
/-! SUPPORT. Said once: every form a next state of `exec` and of `step` can have. Whatever holds of all instructions is a case analysis
over `ExecShape`. -/

namespace Sys2Proof.Machine

/-- The forms of a next state of `exec i s`. -/
inductive ExecShape (s : State) : Instr → State → Prop where
  | reg {i : Instr} {d : Reg} (v : Word) (hd : destReg i = some d) (hf : destFReg i = none) (hw : isWrite i = false)
      (hp : ∀ r, i ≠ .pop r) : ExecShape s i (advance (writeReg s d v))
  | deviceRead (d a : Reg) (c : Const16) (v : Word) (x : Nat) :
      ExecShape s (.read d a c) (advance (writeReg (deviceLoad s x).2 d v))
  | pop (d : Reg) (v : Word) : ExecShape s (.pop d) (advance (writeReg (s.setSp (s.sp - 1#8)) d v))
  | push (b : Reg) (v : Word) : ExecShape s (.push b) (advance (pushStack s v))
  | freg {i : Instr} {fd : FReg} (v : FWord) (hd : destReg i = none) (hf : destFReg i = some fd) (hw : isWrite i = false) :
      ExecShape s i (advance (writeF s fd v))
  | store {i : Instr} (ea : Word) (n : Nat) (bs : List Byte) (hw : isWrite i = true) (hl : bs.length = n)
      (hn : n = 1 ∨ n = 2 ∨ n = 4) (hr : regionOf (alignDown ea n) = .sdram) :
      ExecShape s i (advance (storeSdram s (alignDown ea n) bs))
  | deviceWrite (b a : Reg) (c : Const16) (x : Nat) (v : Word) : ExecShape s (.write b a c) (advance (deviceStore s x v))
  | internalWrite (b a : Reg) (c : Const16) (x : Nat) (v : Word) : ExecShape s (.write b a c) (advance (internalStore s x v))
  | jump {i : Instr} (t : Word) (hd : destReg i = none) (hf : destFReg i = none) (hw : isWrite i = false)
      (hj : takesJump i s) : ExecShape s i (takeJump s t)
  | untaken {i : Instr} (hd : destReg i = none) (hf : destFReg i = none) (hw : isWrite i = false) : ExecShape s i (advance s)
  | ccache : ExecShape s .ccache (advance (clearCaches s))
  | reti : ExecShape s .reti (returnFromInterrupt s)

theorem branchIf_shape {i : Instr} {f : Word → Word → Bool} {a b : Reg} {c : Const16} {s t : State}
    (h : branchIf f a b c s = .next t) (hd : destReg i = none) (hf : destFReg i = none) (hw : isWrite i = false)
    (hj : f (readReg s a) (readReg s b) = true → takesJump i s) : ExecShape s i t := by
  unfold branchIf at h
  split at h
  · obtain rfl := Host.Outcome.next.inj h
    exact .jump _ hd hf hw (hj ‹_›)
  · obtain rfl := Host.Outcome.next.inj h
    exact .untaken hd hf hw

theorem loadInto_shape {α : Type} {i : Instr} {d : Reg} {widen : α → Word} {r : Res α} {s t : State}
    (h : loadInto d widen r s = .next t) (hd : destReg i = some d) (hf : destFReg i = none) (hw : isWrite i = false)
    (hp : ∀ r, i ≠ .pop r) : ExecShape s i t := by
  obtain ⟨v, _, h⟩ := andThen_next h
  obtain rfl := Host.Outcome.next.inj h
  exact .reg _ hd hf hw hp

/-- All that `exec` can do when it completes. -/
theorem exec_next {i : Instr} {s t : State} (h : exec i s = .next t) : ExecShape s i t := by
  cases i
  case halt | jump | jumpo | jumpr | jumpro =>
    obtain rfl := Host.Outcome.next.inj h
    exact .jump _ rfl rfl rfl trivial
  case read d a c =>
    obtain ⟨⟨v, u⟩, h1, h2⟩ := andThen_next (h : execRead d a c s = _)
    obtain rfl := Host.Outcome.next.inj h2
    rcases memReadWord_next h1 with ⟨_, _, rfl⟩ | ⟨_, _, rfl⟩ | ⟨_, rfl⟩ | ⟨_, _, rfl⟩
    · exact .reg _ rfl rfl rfl (by simp)
    · exact .reg _ rfl rfl rfl (by simp)
    · exact .deviceRead ..
    · exact .reg _ rfl rfl rfl (by simp)
  case readb | readbu | readh | readhu => exact loadInto_shape h rfl rfl rfl (by simp)
  case write b a c =>
    obtain ⟨u, h1, h2⟩ := andThen_next (h : execWrite b a c s = _)
    obtain rfl := Host.Outcome.next.inj h2
    rcases memWriteWord_next h1 with ⟨h3, rfl⟩ | rfl | ⟨_, rfl⟩
    · exact .store _ 4 _ rfl rfl (by simp) h3
    · exact .deviceWrite ..
    · exact .internalWrite ..
  case writeb b a c =>
    obtain ⟨u, h1, h2⟩ := andThen_next (h : execWriteb b a c s = _)
    obtain rfl := Host.Outcome.next.inj h2
    obtain ⟨h3, rfl⟩ := subWordStore_next h1
    exact .store _ 1 _ rfl rfl (by simp) h3
  case writeh b a c =>
    obtain ⟨u, h1, h2⟩ := andThen_next (h : execWriteh b a c s = _)
    obtain rfl := Host.Outcome.next.inj h2
    obtain ⟨h3, rfl⟩ := subWordStore_next h1
    exact .store _ 2 _ rfl rfl (by simp) h3
  case push => obtain rfl := Host.Outcome.next.inj h; exact .push ..
  case pop => obtain rfl := Host.Outcome.next.inj h; exact .pop ..
  case ccache => obtain rfl := Host.Outcome.next.inj h; exact .ccache
  case reti => obtain rfl := Host.Outcome.next.inj h; exact .reti
  case beq | bne | bgt | bge | blt | ble | bgts | bges | blts | bles =>
    refine branchIf_shape h rfl rfl rfl fun hc => ?_
    simpa [takesJump, condEq, condNe, condGt, condGe, condLt, condLe, condGts, condGes, condLts, condLes] using hc
  case fmul | fadd | fsub | fld => obtain rfl := Host.Outcome.next.inj h; exact .freg _ rfl rfl rfl
  all_goals (obtain rfl := Host.Outcome.next.inj h; exact .reg _ rfl rfl rfl (by simp))

/-- All that `step` can do when it completes: a fetch that at most counts a race, and an `exec`. -/
theorem step_next {s t : State} (h : step s = .next t) :
    ∃ u i, (u = s ∨ u = s.setRaceCount (s.raceCount + 1)) ∧ exec i u = .next t := by
  obtain ⟨⟨w, u⟩, h1, h2⟩ := andThen_next h
  simp only [runWord] at h2
  split at h2
  · exact ⟨u, _, fetchWord_next h1, h2⟩
  · simp at h2

/-! ## The regions of aligned addresses, in the terms of the statements -/

theorem regionOf_of_inSdram {x n : Nat} (h : InSdram x) : regionOf (x / n * n) = .sdram := by
  rw [regionOf_sdram]
  exact le_trans (Nat.div_mul_le_self x n) h

theorem regionOf_of_inRom {x n : Nat} (hn : n = 1 ∨ n = 2 ∨ n = 4) (h : InRom x) : regionOf (x / n * n) = .rom := by
  rw [regionOf_rom]
  unfold InRom at h
  rcases hn with rfl | rfl | rfl <;> omega

theorem regionOf_of_inInternal {x n : Nat} (hn : n = 1 ∨ n = 2 ∨ n = 4) (h : InInternal x) :
    regionOf (x / n * n) = .internal := by
  rw [regionOf_internal]
  unfold InInternal at h
  rcases hn with rfl | rfl | rfl <;> omega

theorem regionOf_of_isUnmapped {x n : Nat} (hn : n = 1 ∨ n = 2 ∨ n = 4) (h : IsUnmapped x) :
    regionOf (x / n * n) = .unmapped := by
  unfold IsUnmapped at h
  unfold regionOf
  rcases hn with rfl | rfl | rfl <;> split_ifs <;> first | rfl | omega

theorem regionOf_of_inDevice {x n : Nat} (hn : n = 1 ∨ n = 2 ∨ n = 4) (h : InDevice x) :
    regionOf (x / n * n) = .io ∨ regionOf (x / n * n) = .vram32 ∨ regionOf (x / n * n) = .vram8 ∨
    regionOf (x / n * n) = .vramPixel := by
  unfold InDevice at h
  unfold regionOf
  rcases hn with rfl | rfl | rfl <;> split_ifs <;> first | (exfalso; omega) | simp

end Sys2Proof.Machine
end

