-- ==== Sys2Proof/Laws/PerInstr.lean ====
section
/-! SUPPORT. One lemma per instruction: the primary opcode of its word is the one 30_encoding.md R61 assigns to its format. -/

namespace Sys2Proof.Laws

/-- The primary opcode of an instruction's format (30_encoding.md R61). -/
def primaryOpcode : Instr → Nat
  | .halt => 15
  | .read _ _ _ => 14
  | .readb _ _ _ => 14
  | .readbu _ _ _ => 14
  | .readh _ _ _ => 14
  | .readhu _ _ _ => 14
  | .write _ _ _ => 13
  | .writeb _ _ _ => 13
  | .writeh _ _ _ => 13
  | .intid _ => 12
  | .push _ => 11
  | .pop _ => 10
  | .jump _ => 9
  | .jumpo _ => 9
  | .jumpr _ _ => 8
  | .jumpro _ _ => 8
  | .ccache => 7
  | .beq _ _ _ => 6
  | .bne _ _ _ => 6
  | .bgt _ _ _ => 6
  | .bge _ _ _ => 6
  | .blt _ _ _ => 6
  | .ble _ _ _ => 6
  | .bgts _ _ _ => 6
  | .bges _ _ _ => 6
  | .blts _ _ _ => 6
  | .bles _ _ _ => 6
  | .savpc _ => 5
  | .reti => 4
  | .or _ _ _ => 0
  | .and _ _ _ => 0
  | .xor _ _ _ => 0
  | .add _ _ _ => 0
  | .sub _ _ _ => 0
  | .shiftl _ _ _ => 0
  | .shiftr _ _ _ => 0
  | .not _ _ _ => 0
  | .slt _ _ _ => 0
  | .sltu _ _ _ => 0
  | .load _ _ _ => 0
  | .loadhi _ _ _ => 0
  | .shiftrs _ _ _ => 0
  | .orC _ _ _ => 1
  | .andC _ _ _ => 1
  | .xorC _ _ _ => 1
  | .addC _ _ _ => 1
  | .subC _ _ _ => 1
  | .shiftlC _ _ _ => 1
  | .shiftrC _ _ _ => 1
  | .notC _ _ _ => 1
  | .sltC _ _ _ => 1
  | .sltuC _ _ _ => 1
  | .loadC _ _ _ => 1
  | .loadhiC _ _ _ => 1
  | .shiftrsC _ _ _ => 1
  | .mults _ _ _ => 2
  | .multu _ _ _ => 2
  | .multfp _ _ _ => 2
  | .divs _ _ _ => 2
  | .divu _ _ _ => 2
  | .divfp _ _ _ => 2
  | .mods _ _ _ => 2
  | .modu _ _ _ => 2
  | .mulshi _ _ _ => 2
  | .multuhi _ _ _ => 2
  | .multsC _ _ _ => 3
  | .multuC _ _ _ => 3
  | .multfpC _ _ _ => 3
  | .divsC _ _ _ => 3
  | .divuC _ _ _ => 3
  | .divfpC _ _ _ => 3
  | .modsC _ _ _ => 3
  | .moduC _ _ _ => 3
  | .mulshiC _ _ _ => 3
  | .multuhiC _ _ _ => 3
  | .fmul _ _ _ => 2
  | .fadd _ _ _ => 2
  | .fsub _ _ _ => 2
  | .fld _ _ _ => 2
  | .fsthi _ _ => 2
  | .fstlo _ _ => 2

/-- The word of `i` carries its format's primary opcode in bits 31:28. -/
def PrimaryOpcode.Statement (i : Instr) : Prop := field (encodeWord i) 31 28 = primaryOpcode i

theorem field_packConstHigh (op : Nat) (c : Const16) (n2 n1 n0 : Nat) (h : op < 16) (h2 : n2 < 16) (h1 : n1 < 16) (h0 : n0 < 16) :
    field (packConstHigh op c n2 n1 n0) 31 28 = op := by
  have := c.isLt
  simp only [field, packConstHigh, BitVec.toNat_ofNat]
  omega

theorem field_packConstForm (op aop : Nat) (d a : Reg) (c : Const16) (h : op < 16) (h1 : aop < 16) :
    field (packConstForm op aop d a c) 31 28 = op := by
  have := c.isLt
  have := a.isLt
  have := d.isLt
  simp only [field, packConstForm, BitVec.toNat_ofNat]
  omega

theorem field_packRegForm (op aop n2 n1 n0 : Nat) (h : op < 16) (ha : aop < 16) (h2 : n2 < 16) (h1 : n1 < 16) (h0 : n0 < 16) :
    field (packRegForm op aop n2 n1 n0) 31 28 = op := by
  simp only [field, packRegForm, BitVec.toNat_ofNat]
  omega

theorem field_packJump (c : Const27) (o : Nat) (h : o < 2) : field (packJump c o) 31 28 = 9 := by
  have := c.isLt
  simp only [field, packJump, BitVec.toNat_ofNat]
  omega

theorem PrimaryOpcode.halt : Statement .halt := (by decide : field (encodeWord .halt) 31 28 = 15)

theorem PrimaryOpcode.read (d : Reg) (a : Reg) (c : Const16) : Statement (.read d a c) := field_packConstHigh _ _ _ _ _ (by decide) a.isLt (by decide) d.isLt

theorem PrimaryOpcode.readb (d : Reg) (a : Reg) (c : Const16) : Statement (.readb d a c) := field_packConstHigh _ _ _ _ _ (by decide) a.isLt (by decide) d.isLt

theorem PrimaryOpcode.readbu (d : Reg) (a : Reg) (c : Const16) : Statement (.readbu d a c) := field_packConstHigh _ _ _ _ _ (by decide) a.isLt (by decide) d.isLt

theorem PrimaryOpcode.readh (d : Reg) (a : Reg) (c : Const16) : Statement (.readh d a c) := field_packConstHigh _ _ _ _ _ (by decide) a.isLt (by decide) d.isLt

theorem PrimaryOpcode.readhu (d : Reg) (a : Reg) (c : Const16) : Statement (.readhu d a c) := field_packConstHigh _ _ _ _ _ (by decide) a.isLt (by decide) d.isLt

theorem PrimaryOpcode.write (b : Reg) (a : Reg) (c : Const16) : Statement (.write b a c) := field_packConstHigh _ _ _ _ _ (by decide) a.isLt b.isLt (by decide)

theorem PrimaryOpcode.writeb (b : Reg) (a : Reg) (c : Const16) : Statement (.writeb b a c) := field_packConstHigh _ _ _ _ _ (by decide) a.isLt b.isLt (by decide)

theorem PrimaryOpcode.writeh (b : Reg) (a : Reg) (c : Const16) : Statement (.writeh b a c) := field_packConstHigh _ _ _ _ _ (by decide) a.isLt b.isLt (by decide)

theorem PrimaryOpcode.intid (d : Reg) : Statement (.intid d) := field_packRegForm _ _ _ _ _ (by decide) (by decide) (by decide) (by decide) d.isLt

theorem PrimaryOpcode.push (b : Reg) : Statement (.push b) := field_packRegForm _ _ _ _ _ (by decide) (by decide) (by decide) b.isLt (by decide)

theorem PrimaryOpcode.pop (d : Reg) : Statement (.pop d) := field_packRegForm _ _ _ _ _ (by decide) (by decide) (by decide) (by decide) d.isLt

theorem PrimaryOpcode.jump (c : Const27) : Statement (.jump c) := field_packJump _ _ (by decide)

theorem PrimaryOpcode.jumpo (c : Const27) : Statement (.jumpo c) := field_packJump _ _ (by decide)

theorem PrimaryOpcode.jumpr (b : Reg) (c : Const16) : Statement (.jumpr b c) := field_packConstHigh _ _ _ _ _ (by decide) (by decide) b.isLt (by decide)

theorem PrimaryOpcode.jumpro (b : Reg) (c : Const16) : Statement (.jumpro b c) := field_packConstHigh _ _ _ _ _ (by decide) (by decide) b.isLt (by decide)

theorem PrimaryOpcode.ccache : Statement .ccache := (by decide : field (encodeWord .ccache) 31 28 = 7)

theorem PrimaryOpcode.beq (a : Reg) (b : Reg) (c : Const16) : Statement (.beq a b c) := field_packConstHigh _ _ _ _ _ (by decide) a.isLt b.isLt (by decide)

theorem PrimaryOpcode.bne (a : Reg) (b : Reg) (c : Const16) : Statement (.bne a b c) := field_packConstHigh _ _ _ _ _ (by decide) a.isLt b.isLt (by decide)

theorem PrimaryOpcode.bgt (a : Reg) (b : Reg) (c : Const16) : Statement (.bgt a b c) := field_packConstHigh _ _ _ _ _ (by decide) a.isLt b.isLt (by decide)

theorem PrimaryOpcode.bge (a : Reg) (b : Reg) (c : Const16) : Statement (.bge a b c) := field_packConstHigh _ _ _ _ _ (by decide) a.isLt b.isLt (by decide)

theorem PrimaryOpcode.blt (a : Reg) (b : Reg) (c : Const16) : Statement (.blt a b c) := field_packConstHigh _ _ _ _ _ (by decide) a.isLt b.isLt (by decide)

theorem PrimaryOpcode.ble (a : Reg) (b : Reg) (c : Const16) : Statement (.ble a b c) := field_packConstHigh _ _ _ _ _ (by decide) a.isLt b.isLt (by decide)

theorem PrimaryOpcode.bgts (a : Reg) (b : Reg) (c : Const16) : Statement (.bgts a b c) := field_packConstHigh _ _ _ _ _ (by decide) a.isLt b.isLt (by decide)

theorem PrimaryOpcode.bges (a : Reg) (b : Reg) (c : Const16) : Statement (.bges a b c) := field_packConstHigh _ _ _ _ _ (by decide) a.isLt b.isLt (by decide)

theorem PrimaryOpcode.blts (a : Reg) (b : Reg) (c : Const16) : Statement (.blts a b c) := field_packConstHigh _ _ _ _ _ (by decide) a.isLt b.isLt (by decide)

theorem PrimaryOpcode.bles (a : Reg) (b : Reg) (c : Const16) : Statement (.bles a b c) := field_packConstHigh _ _ _ _ _ (by decide) a.isLt b.isLt (by decide)

theorem PrimaryOpcode.savpc (d : Reg) : Statement (.savpc d) := field_packRegForm _ _ _ _ _ (by decide) (by decide) (by decide) (by decide) d.isLt

theorem PrimaryOpcode.reti : Statement .reti := (by decide : field (encodeWord .reti) 31 28 = 4)

theorem PrimaryOpcode.or (d : Reg) (a : Reg) (b : Reg) : Statement (.or d a b) := field_packRegForm _ _ _ _ _ (by decide) (by decide) a.isLt b.isLt d.isLt

theorem PrimaryOpcode.and (d : Reg) (a : Reg) (b : Reg) : Statement (.and d a b) := field_packRegForm _ _ _ _ _ (by decide) (by decide) a.isLt b.isLt d.isLt

theorem PrimaryOpcode.xor (d : Reg) (a : Reg) (b : Reg) : Statement (.xor d a b) := field_packRegForm _ _ _ _ _ (by decide) (by decide) a.isLt b.isLt d.isLt

theorem PrimaryOpcode.add (d : Reg) (a : Reg) (b : Reg) : Statement (.add d a b) := field_packRegForm _ _ _ _ _ (by decide) (by decide) a.isLt b.isLt d.isLt

theorem PrimaryOpcode.sub (d : Reg) (a : Reg) (b : Reg) : Statement (.sub d a b) := field_packRegForm _ _ _ _ _ (by decide) (by decide) a.isLt b.isLt d.isLt

theorem PrimaryOpcode.shiftl (d : Reg) (a : Reg) (b : Reg) : Statement (.shiftl d a b) := field_packRegForm _ _ _ _ _ (by decide) (by decide) a.isLt b.isLt d.isLt

theorem PrimaryOpcode.shiftr (d : Reg) (a : Reg) (b : Reg) : Statement (.shiftr d a b) := field_packRegForm _ _ _ _ _ (by decide) (by decide) a.isLt b.isLt d.isLt

theorem PrimaryOpcode.not (d : Reg) (a : Reg) (b : Reg) : Statement (.not d a b) := field_packRegForm _ _ _ _ _ (by decide) (by decide) a.isLt b.isLt d.isLt

theorem PrimaryOpcode.slt (d : Reg) (a : Reg) (b : Reg) : Statement (.slt d a b) := field_packRegForm _ _ _ _ _ (by decide) (by decide) a.isLt b.isLt d.isLt

theorem PrimaryOpcode.sltu (d : Reg) (a : Reg) (b : Reg) : Statement (.sltu d a b) := field_packRegForm _ _ _ _ _ (by decide) (by decide) a.isLt b.isLt d.isLt

theorem PrimaryOpcode.load (d : Reg) (a : Reg) (b : Reg) : Statement (.load d a b) := field_packRegForm _ _ _ _ _ (by decide) (by decide) a.isLt b.isLt d.isLt

theorem PrimaryOpcode.loadhi (d : Reg) (a : Reg) (b : Reg) : Statement (.loadhi d a b) := field_packRegForm _ _ _ _ _ (by decide) (by decide) a.isLt b.isLt d.isLt

theorem PrimaryOpcode.shiftrs (d : Reg) (a : Reg) (b : Reg) : Statement (.shiftrs d a b) := field_packRegForm _ _ _ _ _ (by decide) (by decide) a.isLt b.isLt d.isLt

theorem PrimaryOpcode.orC (d : Reg) (a : Reg) (c : Const16) : Statement (.orC d a c) := field_packConstForm _ _ _ _ _ (by decide) (by decide)

theorem PrimaryOpcode.andC (d : Reg) (a : Reg) (c : Const16) : Statement (.andC d a c) := field_packConstForm _ _ _ _ _ (by decide) (by decide)

theorem PrimaryOpcode.xorC (d : Reg) (a : Reg) (c : Const16) : Statement (.xorC d a c) := field_packConstForm _ _ _ _ _ (by decide) (by decide)

theorem PrimaryOpcode.addC (d : Reg) (a : Reg) (c : Const16) : Statement (.addC d a c) := field_packConstForm _ _ _ _ _ (by decide) (by decide)

theorem PrimaryOpcode.subC (d : Reg) (a : Reg) (c : Const16) : Statement (.subC d a c) := field_packConstForm _ _ _ _ _ (by decide) (by decide)

theorem PrimaryOpcode.shiftlC (d : Reg) (a : Reg) (c : Const16) : Statement (.shiftlC d a c) := field_packConstForm _ _ _ _ _ (by decide) (by decide)

theorem PrimaryOpcode.shiftrC (d : Reg) (a : Reg) (c : Const16) : Statement (.shiftrC d a c) := field_packConstForm _ _ _ _ _ (by decide) (by decide)

theorem PrimaryOpcode.notC (d : Reg) (a : Reg) (c : Const16) : Statement (.notC d a c) := field_packConstForm _ _ _ _ _ (by decide) (by decide)

theorem PrimaryOpcode.sltC (d : Reg) (a : Reg) (c : Const16) : Statement (.sltC d a c) := field_packConstForm _ _ _ _ _ (by decide) (by decide)

theorem PrimaryOpcode.sltuC (d : Reg) (a : Reg) (c : Const16) : Statement (.sltuC d a c) := field_packConstForm _ _ _ _ _ (by decide) (by decide)

theorem PrimaryOpcode.loadC (d : Reg) (a : Reg) (c : Const16) : Statement (.loadC d a c) := field_packConstForm _ _ _ _ _ (by decide) (by decide)

theorem PrimaryOpcode.loadhiC (d : Reg) (a : Reg) (c : Const16) : Statement (.loadhiC d a c) := field_packConstForm _ _ _ _ _ (by decide) (by decide)

theorem PrimaryOpcode.shiftrsC (d : Reg) (a : Reg) (c : Const16) : Statement (.shiftrsC d a c) := field_packConstForm _ _ _ _ _ (by decide) (by decide)

theorem PrimaryOpcode.mults (d : Reg) (a : Reg) (b : Reg) : Statement (.mults d a b) := field_packRegForm _ _ _ _ _ (by decide) (by decide) a.isLt b.isLt d.isLt

theorem PrimaryOpcode.multu (d : Reg) (a : Reg) (b : Reg) : Statement (.multu d a b) := field_packRegForm _ _ _ _ _ (by decide) (by decide) a.isLt b.isLt d.isLt

theorem PrimaryOpcode.multfp (d : Reg) (a : Reg) (b : Reg) : Statement (.multfp d a b) := field_packRegForm _ _ _ _ _ (by decide) (by decide) a.isLt b.isLt d.isLt

theorem PrimaryOpcode.divs (d : Reg) (a : Reg) (b : Reg) : Statement (.divs d a b) := field_packRegForm _ _ _ _ _ (by decide) (by decide) a.isLt b.isLt d.isLt

theorem PrimaryOpcode.divu (d : Reg) (a : Reg) (b : Reg) : Statement (.divu d a b) := field_packRegForm _ _ _ _ _ (by decide) (by decide) a.isLt b.isLt d.isLt

theorem PrimaryOpcode.divfp (d : Reg) (a : Reg) (b : Reg) : Statement (.divfp d a b) := field_packRegForm _ _ _ _ _ (by decide) (by decide) a.isLt b.isLt d.isLt

theorem PrimaryOpcode.mods (d : Reg) (a : Reg) (b : Reg) : Statement (.mods d a b) := field_packRegForm _ _ _ _ _ (by decide) (by decide) a.isLt b.isLt d.isLt

theorem PrimaryOpcode.modu (d : Reg) (a : Reg) (b : Reg) : Statement (.modu d a b) := field_packRegForm _ _ _ _ _ (by decide) (by decide) a.isLt b.isLt d.isLt

theorem PrimaryOpcode.mulshi (d : Reg) (a : Reg) (b : Reg) : Statement (.mulshi d a b) := field_packRegForm _ _ _ _ _ (by decide) (by decide) a.isLt b.isLt d.isLt

theorem PrimaryOpcode.multuhi (d : Reg) (a : Reg) (b : Reg) : Statement (.multuhi d a b) := field_packRegForm _ _ _ _ _ (by decide) (by decide) a.isLt b.isLt d.isLt

theorem PrimaryOpcode.multsC (d : Reg) (a : Reg) (c : Const16) : Statement (.multsC d a c) := field_packConstForm _ _ _ _ _ (by decide) (by decide)

theorem PrimaryOpcode.multuC (d : Reg) (a : Reg) (c : Const16) : Statement (.multuC d a c) := field_packConstForm _ _ _ _ _ (by decide) (by decide)

theorem PrimaryOpcode.multfpC (d : Reg) (a : Reg) (c : Const16) : Statement (.multfpC d a c) := field_packConstForm _ _ _ _ _ (by decide) (by decide)

theorem PrimaryOpcode.divsC (d : Reg) (a : Reg) (c : Const16) : Statement (.divsC d a c) := field_packConstForm _ _ _ _ _ (by decide) (by decide)

theorem PrimaryOpcode.divuC (d : Reg) (a : Reg) (c : Const16) : Statement (.divuC d a c) := field_packConstForm _ _ _ _ _ (by decide) (by decide)

theorem PrimaryOpcode.divfpC (d : Reg) (a : Reg) (c : Const16) : Statement (.divfpC d a c) := field_packConstForm _ _ _ _ _ (by decide) (by decide)

theorem PrimaryOpcode.modsC (d : Reg) (a : Reg) (c : Const16) : Statement (.modsC d a c) := field_packConstForm _ _ _ _ _ (by decide) (by decide)

theorem PrimaryOpcode.moduC (d : Reg) (a : Reg) (c : Const16) : Statement (.moduC d a c) := field_packConstForm _ _ _ _ _ (by decide) (by decide)

theorem PrimaryOpcode.mulshiC (d : Reg) (a : Reg) (c : Const16) : Statement (.mulshiC d a c) := field_packConstForm _ _ _ _ _ (by decide) (by decide)

theorem PrimaryOpcode.multuhiC (d : Reg) (a : Reg) (c : Const16) : Statement (.multuhiC d a c) := field_packConstForm _ _ _ _ _ (by decide) (by decide)

theorem PrimaryOpcode.fmul (fd : FReg) (fa : FReg) (fb : FReg) : Statement (.fmul fd fa fb) := field_packRegForm _ _ _ _ _ (by decide) (by decide) fa.isLt fb.isLt fd.isLt

theorem PrimaryOpcode.fadd (fd : FReg) (fa : FReg) (fb : FReg) : Statement (.fadd fd fa fb) := field_packRegForm _ _ _ _ _ (by decide) (by decide) fa.isLt fb.isLt fd.isLt

theorem PrimaryOpcode.fsub (fd : FReg) (fa : FReg) (fb : FReg) : Statement (.fsub fd fa fb) := field_packRegForm _ _ _ _ _ (by decide) (by decide) fa.isLt fb.isLt fd.isLt

theorem PrimaryOpcode.fld (fd : FReg) (a : Reg) (b : Reg) : Statement (.fld fd a b) := field_packRegForm _ _ _ _ _ (by decide) (by decide) a.isLt b.isLt fd.isLt

theorem PrimaryOpcode.fsthi (d : Reg) (fa : FReg) : Statement (.fsthi d fa) := field_packRegForm _ _ _ _ _ (by decide) (by decide) fa.isLt (by decide) d.isLt

theorem PrimaryOpcode.fstlo (d : Reg) (fa : FReg) : Statement (.fstlo d fa) := field_packRegForm _ _ _ _ _ (by decide) (by decide) fa.isLt (by decide) d.isLt

end Sys2Proof.Laws
end

