-- ==== Sys2Proof/Tests/Slice0.lean ====
section
/-! SUPPORT. The model's own tests. Every expected value is the one spec/95_test_vectors.md gives (its section is named), or is worked out by
hand from the rule named; none is the model's own answer. Then, for every statement with hypotheses, a state and operands that meet
them. -/

namespace Sys2Proof.Tests

open Sys2Proof Sys2Proof.Machine

/-! ## Building states -/

/-- The state after reset, in an environment that never raises anything (`IRQ_ENV` offers no interrupt, 95_test_vectors.md). -/
def calm : State := State.reset.setIrqEnv (.schedule [])

/-- That state with these general registers. -/
def holding (l : List (Reg × Word)) : State := l.foldl (fun s p => writeReg s p.1 p.2) calm

/-- `s` with `pc` at an address and the word `w` placed there. -/
def running (pc : Word) (w : Nat) (s : State) : State := (s.setPc pc).withFetchWord 32 w

/-- What one step makes of a state, where it completes. -/
def after {α : Type} (s : State) (f : State → α) : Option α :=
  match step s with
  | .next t => some (f t)
  | _ => none

/-- How one step stops, where it does. -/
def stopOf (s : State) : Option (Fault ⊕ Refusal) :=
  match step s with
  | .next _ => none
  | .fault e => some (.inl e)
  | .refused e => some (.inr e)

/-- r3 and `pc` after the word `w` runs at 0x1000 with r1 = `a` and r2 = `b`. -/
def alu (w : Nat) (a b : Word) : Option (Word × Word) :=
  after (running 0x1000#32 w (holding [(1#4, a), (2#4, b), (3#4, 0x55AA55AA#32)])) fun t => (readReg t 3#4, t.pc)

/-- `alu` completed with the result `v` and went on. -/
def gives (v : Word) : Option (Word × Word) := some (v, 0x1004#32)

/-- `pc` after the branch word `w` runs at 0x1000 with r1 = `a` and r2 = `b`. -/
def branch (w : Nat) (a b : Word) : Option Word := after (running 0x1000#32 w (holding [(1#4, a), (2#4, b)])) State.pc

/-- f2 after the word `w` runs with f0 = `a` and f1 = `b`. -/
def fp (w : Nat) (a b : FWord) : Option FWord :=
  after (running 0x1000#32 w (writeF (writeF calm 0#4 a) 1#4 b)) (readF · 2#4)

/-- The start state of section 3.2: r1 = 0x2000, r4 = 0xDEADBEAA, and the bytes of 0x11223344 and 0x80FF7F80 from 0x2000 on. -/
def section32 : State :=
  (holding [(1#4, 0x2000#32), (4#4, 0xDEADBEAA#32)]).setMem
    (Memory.writeBytes [] 0x2000 [0x44#8, 0x33#8, 0x22#8, 0x11#8, 0x80#8, 0x7F#8, 0xFF#8, 0x80#8])

/-- r3 after the load word `w` runs on the start state of section 3.2. -/
def load32 (w : Nat) : Option Word := after (running 0x1000#32 w section32) (readReg · 3#4)

/-- The word at 0x2000 after the store word `w` runs on the start state of section 3.2. -/
def store32 (w : Nat) : Option (Option Word) := after (running 0x1000#32 w section32) fun t => loadWord t.mem 0x2000

/-! ## WellFormed refuses ill-formed terms (R79: an FP64 field with bit 3 set) -/

theorem test_wellFormed_fmul : (Instr.fmul 8#4 0#4 0#4).wellFormed = false ∧ (Instr.fmul 0#4 8#4 0#4).wellFormed = false ∧
    (Instr.fmul 0#4 0#4 8#4).wellFormed = false ∧ (Instr.fmul 7#4 7#4 7#4).wellFormed = true := by decide

theorem test_wellFormed_fadd : (Instr.fadd 9#4 0#4 0#4).wellFormed = false ∧ (Instr.fadd 0#4 10#4 0#4).wellFormed = false ∧
    (Instr.fadd 0#4 0#4 15#4).wellFormed = false := by decide

theorem test_wellFormed_fsub : (Instr.fsub 8#4 0#4 0#4).wellFormed = false ∧ (Instr.fsub 0#4 8#4 0#4).wellFormed = false ∧
    (Instr.fsub 0#4 0#4 8#4).wellFormed = false := by decide

theorem test_wellFormed_fp_moves : (Instr.fld 8#4 15#4 15#4).wellFormed = false ∧ (Instr.fld 7#4 15#4 15#4).wellFormed = true ∧
    (Instr.fsthi 15#4 8#4).wellFormed = false ∧ (Instr.fstlo 15#4 8#4).wellFormed = false ∧
    (Instr.fstlo 15#4 7#4).wellFormed = true := by decide

/-! ## Decoding: the words of section 2, one at least for every constructor -/

/-- R62, R67, R68, R70 -/
theorem test_decode_control :
    decodeWord 0xFFFFFFFF#32 = .ok (.halt) ∧
    decodeWord 0x90000200#32 = .ok (.jump 0x100#27) ∧
    decodeWord 0x90000011#32 = .ok (.jumpo 0x8#27) ∧
    decodeWord 0x80008030#32 = .ok (.jumpr 3#4 0x8#16) ∧
    decodeWord 0x8FFFC031#32 = .ok (.jumpro 3#4 0xFFFC#16) ∧
    decodeWord 0x5000000E#32 = .ok (.savpc 14#4) ∧
    decodeWord 0x40000000#32 = .ok (.reti) := by decide

/-- R69, R76 -/
theorem test_decode_branch :
    decodeWord 0x60010120#32 = .ok (.beq 1#4 2#4 0x10#16) ∧
    decodeWord 0x60010128#32 = .ok (.bne 1#4 2#4 0x10#16) ∧
    decodeWord 0x60010122#32 = .ok (.bgt 1#4 2#4 0x10#16) ∧
    decodeWord 0x60010124#32 = .ok (.bge 1#4 2#4 0x10#16) ∧
    decodeWord 0x6001012A#32 = .ok (.blt 1#4 2#4 0x10#16) ∧
    decodeWord 0x6001012C#32 = .ok (.ble 1#4 2#4 0x10#16) ∧
    decodeWord 0x60010123#32 = .ok (.bgts 1#4 2#4 0x10#16) ∧
    decodeWord 0x60010125#32 = .ok (.bges 1#4 2#4 0x10#16) ∧
    decodeWord 0x6001012B#32 = .ok (.blts 1#4 2#4 0x10#16) ∧
    decodeWord 0x6001012D#32 = .ok (.bles 1#4 2#4 0x10#16) ∧
    decodeWord 0x6FFF8108#32 = .ok (.bne 1#4 0#4 0xFFF8#16) := by decide

/-- R63 to R66, R74, R75 -/
theorem test_decode_memory :
    decodeWord 0xE0008102#32 = .ok (.read 2#4 1#4 0x8#16) ∧
    decodeWord 0xE0008112#32 = .ok (.readb 2#4 1#4 0x8#16) ∧
    decodeWord 0xE0008152#32 = .ok (.readbu 2#4 1#4 0x8#16) ∧
    decodeWord 0xE0008122#32 = .ok (.readh 2#4 1#4 0x8#16) ∧
    decodeWord 0xE0008162#32 = .ok (.readhu 2#4 1#4 0x8#16) ∧
    decodeWord 0xEFFFC102#32 = .ok (.read 2#4 1#4 0xFFFC#16) ∧
    decodeWord 0xD0008450#32 = .ok (.write 5#4 4#4 0x8#16) ∧
    decodeWord 0xD0008451#32 = .ok (.writeb 5#4 4#4 0x8#16) ∧
    decodeWord 0xD0008452#32 = .ok (.writeh 5#4 4#4 0x8#16) ∧
    decodeWord 0xB0000040#32 = .ok (.push 4#4) ∧
    decodeWord 0xA0000004#32 = .ok (.pop 4#4) := by decide

/-- R65, R70 -/
theorem test_decode_misc :
    decodeWord 0xC0000007#32 = .ok (.intid 7#4) ∧
    decodeWord 0x70000000#32 = .ok (.ccache) := by decide

/-- R71, R77 -/
theorem test_decode_arith :
    decodeWord 0x00000123#32 = .ok (.or 3#4 1#4 2#4) ∧
    decodeWord 0x01000123#32 = .ok (.and 3#4 1#4 2#4) ∧
    decodeWord 0x02000123#32 = .ok (.xor 3#4 1#4 2#4) ∧
    decodeWord 0x03000123#32 = .ok (.add 3#4 1#4 2#4) ∧
    decodeWord 0x04000123#32 = .ok (.sub 3#4 1#4 2#4) ∧
    decodeWord 0x05000123#32 = .ok (.shiftl 3#4 1#4 2#4) ∧
    decodeWord 0x06000123#32 = .ok (.shiftr 3#4 1#4 2#4) ∧
    decodeWord 0x07000123#32 = .ok (.not 3#4 1#4 2#4) ∧
    decodeWord 0x0A000123#32 = .ok (.slt 3#4 1#4 2#4) ∧
    decodeWord 0x0B000123#32 = .ok (.sltu 3#4 1#4 2#4) ∧
    decodeWord 0x0C000123#32 = .ok (.load 3#4 1#4 2#4) ∧
    decodeWord 0x0D000123#32 = .ok (.loadhi 3#4 1#4 2#4) ∧
    decodeWord 0x0E000123#32 = .ok (.shiftrs 3#4 1#4 2#4) := by decide

/-- R71, R77 -/
theorem test_decode_arithc :
    decodeWord 0x10123413#32 = .ok (.orC 3#4 1#4 0x1234#16) ∧
    decodeWord 0x11123413#32 = .ok (.andC 3#4 1#4 0x1234#16) ∧
    decodeWord 0x12123413#32 = .ok (.xorC 3#4 1#4 0x1234#16) ∧
    decodeWord 0x13123413#32 = .ok (.addC 3#4 1#4 0x1234#16) ∧
    decodeWord 0x14123413#32 = .ok (.subC 3#4 1#4 0x1234#16) ∧
    decodeWord 0x15123413#32 = .ok (.shiftlC 3#4 1#4 0x1234#16) ∧
    decodeWord 0x16123413#32 = .ok (.shiftrC 3#4 1#4 0x1234#16) ∧
    decodeWord 0x17123413#32 = .ok (.notC 3#4 1#4 0x1234#16) ∧
    decodeWord 0x1A123413#32 = .ok (.sltC 3#4 1#4 0x1234#16) ∧
    decodeWord 0x1B123413#32 = .ok (.sltuC 3#4 1#4 0x1234#16) ∧
    decodeWord 0x1C123413#32 = .ok (.loadC 3#4 1#4 0x1234#16) ∧
    decodeWord 0x1D123413#32 = .ok (.loadhiC 3#4 1#4 0x1234#16) ∧
    decodeWord 0x1E123413#32 = .ok (.shiftrsC 3#4 1#4 0x1234#16) := by decide

/-- R71, R78 -/
theorem test_decode_arithm :
    decodeWord 0x20000123#32 = .ok (.mults 3#4 1#4 2#4) ∧
    decodeWord 0x21000123#32 = .ok (.multu 3#4 1#4 2#4) ∧
    decodeWord 0x22000123#32 = .ok (.multfp 3#4 1#4 2#4) ∧
    decodeWord 0x23000123#32 = .ok (.divs 3#4 1#4 2#4) ∧
    decodeWord 0x24000123#32 = .ok (.divu 3#4 1#4 2#4) ∧
    decodeWord 0x25000123#32 = .ok (.divfp 3#4 1#4 2#4) ∧
    decodeWord 0x26000123#32 = .ok (.mods 3#4 1#4 2#4) ∧
    decodeWord 0x27000123#32 = .ok (.modu 3#4 1#4 2#4) ∧
    decodeWord 0x2E000123#32 = .ok (.mulshi 3#4 1#4 2#4) ∧
    decodeWord 0x2F000123#32 = .ok (.multuhi 3#4 1#4 2#4) := by decide

/-- R71, R78 -/
theorem test_decode_arithmc :
    decodeWord 0x30123413#32 = .ok (.multsC 3#4 1#4 0x1234#16) ∧
    decodeWord 0x31123413#32 = .ok (.multuC 3#4 1#4 0x1234#16) ∧
    decodeWord 0x32123413#32 = .ok (.multfpC 3#4 1#4 0x1234#16) ∧
    decodeWord 0x33123413#32 = .ok (.divsC 3#4 1#4 0x1234#16) ∧
    decodeWord 0x34123413#32 = .ok (.divuC 3#4 1#4 0x1234#16) ∧
    decodeWord 0x35123413#32 = .ok (.divfpC 3#4 1#4 0x1234#16) ∧
    decodeWord 0x36123413#32 = .ok (.modsC 3#4 1#4 0x1234#16) ∧
    decodeWord 0x37123413#32 = .ok (.moduC 3#4 1#4 0x1234#16) ∧
    decodeWord 0x3E123413#32 = .ok (.mulshiC 3#4 1#4 0x1234#16) ∧
    decodeWord 0x3F123413#32 = .ok (.multuhiC 3#4 1#4 0x1234#16) := by decide

/-- R79 -/
theorem test_decode_fp64 :
    decodeWord 0x28000012#32 = .ok (.fmul 2#4 0#4 1#4) ∧
    decodeWord 0x29000012#32 = .ok (.fadd 2#4 0#4 1#4) ∧
    decodeWord 0x2A000012#32 = .ok (.fsub 2#4 0#4 1#4) ∧
    decodeWord 0x2B000120#32 = .ok (.fld 0#4 1#4 2#4) ∧
    decodeWord 0x2C000203#32 = .ok (.fsthi 3#4 2#4) ∧
    decodeWord 0x2D000204#32 = .ok (.fstlo 4#4 2#4) := by decide

/-- R81: the words that are not instructions. -/
theorem test_decode_reserved :
    decodeWord 0x08000123#32 = .error .reservedArith ∧
    decodeWord 0x09000123#32 = .error .reservedArith ∧
    decodeWord 0x0F000123#32 = .error .reservedArith ∧
    decodeWord 0x18123413#32 = .error .reservedArith ∧
    decodeWord 0x1F123413#32 = .error .reservedArith ∧
    decodeWord 0x38123413#32 = .error .reservedArithmc ∧
    decodeWord 0x3D123413#32 = .error .reservedArithmc ∧
    decodeWord 0x60010126#32 = .error .reservedBranch ∧
    decodeWord 0x6001012E#32 = .error .reservedBranch ∧
    decodeWord 0x6001012F#32 = .error .reservedBranch ∧
    decodeWord 0xE0008132#32 = .error .reservedRead ∧
    decodeWord 0xE0008142#32 = .error .reservedRead ∧
    decodeWord 0xE0008172#32 = .error .reservedRead ∧
    decodeWord 0xE0008182#32 = .error .reservedRead ∧
    decodeWord 0xD0008453#32 = .error .reservedWrite ∧
    decodeWord 0xD000845F#32 = .error .reservedWrite ∧
    decodeWord 0xF0000000#32 = .error .reservedHalt ∧
    decodeWord 0xFFFFFFFE#32 = .error .reservedHalt := by decide

/-- R80, decision D5: words with x bits set. -/
theorem test_decode_x_bits :
    decodeWord 0x5ABCDEF5#32 = .ok (.savpc 5#4) ∧
    decodeWord 0x4FFFFFFF#32 = .ok (.reti) ∧
    decodeWord 0x7ABCDEF0#32 = .ok (.ccache) ∧
    decodeWord 0xBFFFFF4F#32 = .ok (.push 4#4) ∧
    decodeWord 0xAFFFFFF4#32 = .ok (.pop 4#4) ∧
    decodeWord 0xCFFFFFF7#32 = .ok (.intid 7#4) ∧
    decodeWord 0x8000803E#32 = .ok (.jumpr 3#4 0x8#16) ∧
    decodeWord 0x80008F30#32 = .ok (.jumpr 3#4 0x8#16) ∧
    decodeWord 0x03FFF123#32 = .ok (.add 3#4 1#4 2#4) ∧
    decodeWord 0x60010121#32 = .ok (.beq 1#4 2#4 0x10#16) ∧
    decodeWord 0x60010129#32 = .ok (.bne 1#4 2#4 0x10#16) ∧
    decodeWord 0x2900089A#32 = .ok (.fadd 2#4 0#4 1#4) ∧
    decodeWord 0x2C0002F3#32 = .ok (.fsthi 3#4 2#4) := by decide

/-- R34, R60: the bytes of `add r3, r1, r2` lowest first, and the byte after them left over. -/
theorem test_decode_bytes : decode [0x23#8, 0x01#8, 0x00#8, 0x03#8, 0xEE#8] = .ok (.add 3#4 1#4 2#4, [0xEE#8]) ∧
    decode [0x23#8, 0x01#8, 0x00#8] = .error .truncated := by decide

theorem test_decodeTableWord : decodeTableWord 32 0x13123413 = some (.addC 3#4 1#4 0x1234#16) ∧
    decodeTableWord 32 0x08000123 = none := by decide

/-- R61 to R80: the encoder writes the canonical words of section 2. -/
theorem test_encode : encodeWord .halt = 0xFFFFFFFF#32 ∧ encodeWord (.readbu 2#4 1#4 8#16) = 0xE0008152#32 ∧
    encodeWord (.writeh 5#4 4#4 8#16) = 0xD0008452#32 ∧ encodeWord (.push 4#4) = 0xB0000040#32 ∧
    encodeWord (.jumpo 8#27) = 0x90000011#32 ∧ encodeWord (.jumpro 3#4 0xFFFC#16) = 0x8FFFC031#32 ∧
    encodeWord (.bles 1#4 2#4 16#16) = 0x6001012D#32 ∧ encodeWord (.savpc 14#4) = 0x5000000E#32 ∧
    encodeWord (.shiftrsC 3#4 1#4 0x1234#16) = 0x1E123413#32 ∧ encodeWord (.multuhi 3#4 1#4 2#4) = 0x2F000123#32 ∧
    encodeWord (.fstlo 4#4 2#4) = 0x2D000204#32 := by decide

/-! ## Single-cycle and multi-cycle arithmetic (sections 3.3 and 3.4) -/

theorem test_or : alu 0x00000123 0xF0F0F0F0#32 0x0F0F00FF#32 = gives 0xFFFFF0FF#32 := by decide

theorem test_and : alu 0x01000123 0xF0F0F0F0#32 0xFF00FF00#32 = gives 0xF000F000#32 := by decide

theorem test_xor : alu 0x02000123 0xAAAAAAAA#32 0xFFFFFFFF#32 = gives 0x55555555#32 := by decide

theorem test_add : alu 0x03000123 0xFFFFFFFF#32 0x00000001#32 = gives 0x00000000#32 ∧
    alu 0x03000123 0x7FFFFFFF#32 0x00000001#32 = gives 0x80000000#32 := by decide

theorem test_sub : alu 0x04000123 0x00000000#32 0x00000001#32 = gives 0xFFFFFFFF#32 ∧
    alu 0x04000123 0x80000000#32 0x00000001#32 = gives 0x7FFFFFFF#32 := by decide

theorem test_shiftl : alu 0x05000123 0x00000001#32 0x0000001F#32 = gives 0x80000000#32 ∧
    alu 0x05000123 0x00000001#32 0x00000020#32 = gives 0x00000000#32 := by decide

theorem test_shiftr : alu 0x06000123 0x80000000#32 0x0000001F#32 = gives 0x00000001#32 ∧
    alu 0x06000123 0x80000000#32 0x00000020#32 = gives 0x00000000#32 := by decide

theorem test_not : alu 0x07000123 0x00000000#32 0x00001234#32 = gives 0xFFFFFFFF#32 ∧
    alu 0x07000123 0xFFFF0000#32 0x00000000#32 = gives 0x0000FFFF#32 := by decide

theorem test_slt : alu 0x0A000123 0xFFFFFFFF#32 0x00000001#32 = gives 0x00000001#32 ∧
    alu 0x0A000123 0x80000000#32 0x7FFFFFFF#32 = gives 0x00000001#32 := by decide

theorem test_sltu : alu 0x0B000123 0xFFFFFFFF#32 0x00000001#32 = gives 0x00000000#32 ∧
    alu 0x0B000123 0x00000001#32 0xFFFFFFFF#32 = gives 0x00000001#32 := by decide

theorem test_load : alu 0x0C000123 0xAAAAAAAA#32 0x12345678#32 = gives 0x12345678#32 := by decide

theorem test_loadhi : alu 0x0D000123 0xFFFFBEEF#32 0x1234DEAD#32 = gives 0xDEADBEEF#32 := by decide

theorem test_shiftrs : alu 0x0E000123 0x80000000#32 0x00000004#32 = gives 0xF8000000#32 ∧
    alu 0x0E000123 0x80000000#32 0x00000020#32 = gives 0xFFFFFFFF#32 := by decide

theorem test_mults : alu 0x20000123 0xFFFFFFFF#32 0x00000005#32 = gives 0xFFFFFFFB#32 ∧
    alu 0x20000123 0x7FFFFFFF#32 0x00000002#32 = gives 0xFFFFFFFE#32 := by decide

theorem test_multu : alu 0x21000123 0xFFFFFFFF#32 0xFFFFFFFF#32 = gives 0x00000001#32 ∧
    alu 0x21000123 0x00010000#32 0x0000FFFF#32 = gives 0xFFFF0000#32 := by decide

theorem test_multfp : alu 0x22000123 0xFFFF8000#32 0x00020000#32 = gives 0xFFFF0000#32 ∧
    alu 0x22000123 0x7FFF0000#32 0x00020000#32 = gives 0xFFFE0000#32 := by decide

theorem test_divs : alu 0x23000123 0xFFFFFFF9#32 0x00000002#32 = gives 0xFFFFFFFD#32 ∧
    alu 0x23000123 0x00000007#32 0xFFFFFFFE#32 = gives 0xFFFFFFFD#32 := by decide

theorem test_divu : alu 0x24000123 0xFFFFFFF9#32 0x00000002#32 = gives 0x7FFFFFFC#32 ∧
    alu 0x24000123 0xFFFFFFFF#32 0xFFFFFFFF#32 = gives 0x00000001#32 := by decide

theorem test_divfp : alu 0x25000123 0xFFFD0000#32 0x00020000#32 = gives 0xFFFE8000#32 ∧
    alu 0x25000123 0xFFFF0000#32 0x00030000#32 = gives 0xFFFFAAAB#32 := by decide

theorem test_mods : alu 0x26000123 0xFFFFFFF9#32 0x00000002#32 = gives 0xFFFFFFFF#32 ∧
    alu 0x26000123 0x00000007#32 0xFFFFFFFE#32 = gives 0x00000001#32 := by decide

theorem test_modu : alu 0x27000123 0xFFFFFFF9#32 0x00000002#32 = gives 0x00000001#32 ∧
    alu 0x27000123 0x80000000#32 0xFFFFFFFF#32 = gives 0x80000000#32 := by decide

theorem test_mulshi : alu 0x2E000123 0x80000000#32 0x80000000#32 = gives 0x40000000#32 ∧
    alu 0x2E000123 0xFFFFFFFF#32 0x00000001#32 = gives 0xFFFFFFFF#32 := by decide

theorem test_multuhi : alu 0x2F000123 0xFFFFFFFF#32 0xFFFFFFFF#32 = gives 0xFFFFFFFE#32 ∧
    alu 0x2F000123 0xFFFFFFFF#32 0x00000001#32 = gives 0x00000000#32 := by decide

theorem test_orC : alu 0x1000FF13 0x0000FF00#32 0x00000000#32 = gives 0x0000FFFF#32 ∧
    alu 0x10FFFF13 0x00000000#32 0x00000000#32 = gives 0xFFFFFFFF#32 := by decide

theorem test_andC : alu 0x11FF0013 0x12345678#32 0x00000000#32 = gives 0x12345600#32 ∧
    alu 0x1100FF13 0x12345678#32 0x00000000#32 = gives 0x00000078#32 := by decide

theorem test_xorC : alu 0x12FFFF13 0x0000FFFF#32 0x00000000#32 = gives 0xFFFF0000#32 := by decide

theorem test_addC : alu 0x13FFFD13 0x0000000A#32 0x00000000#32 = gives 0x00000007#32 ∧
    alu 0x13000113 0xFFFFFFFF#32 0x00000000#32 = gives 0x00000000#32 := by decide

theorem test_subC : alu 0x14FFFD13 0x0000000A#32 0x00000000#32 = gives 0x0000000D#32 ∧
    alu 0x14000113 0x00000000#32 0x00000000#32 = gives 0xFFFFFFFF#32 := by decide

theorem test_shiftlC : alu 0x15001013 0x00000001#32 0x00000000#32 = gives 0x00010000#32 ∧
    alu 0x15FFFF13 0x00000001#32 0x00000000#32 = gives 0x00000000#32 := by decide

theorem test_shiftrC : alu 0x16001013 0x80000000#32 0x00000000#32 = gives 0x00008000#32 := by decide

theorem test_notC : alu 0x17123413 0x0F0F0F0F#32 0x00000000#32 = gives 0xF0F0F0F0#32 := by decide

theorem test_sltC : alu 0x1AFFFF13 0xFFFFFFFE#32 0x00000000#32 = gives 0x00000001#32 ∧
    alu 0x1AFFFF13 0x00000000#32 0x00000000#32 = gives 0x00000000#32 := by decide

theorem test_sltuC : alu 0x1BFFFF13 0x00000000#32 0x00000000#32 = gives 0x00000001#32 ∧
    alu 0x1BFFFF13 0xFFFFFFFF#32 0x00000000#32 = gives 0x00000000#32 := by decide

theorem test_loadC : alu 0x1C123413 0x55555555#32 0x00000000#32 = gives 0x00001234#32 ∧
    alu 0x1CBEEF13 0x00000000#32 0x00000000#32 = gives 0xFFFFBEEF#32 := by decide

theorem test_loadhiC : alu 0x1DDEAD13 0xFFFFBEEF#32 0x00000000#32 = gives 0xDEADBEEF#32 ∧
    alu 0x1D000013 0x12345678#32 0x00000000#32 = gives 0x00005678#32 := by decide

theorem test_shiftrsC : alu 0x1E000813 0xFFFF0000#32 0x00000000#32 = gives 0xFFFFFF00#32 ∧
    alu 0x1EFFFF13 0x80000000#32 0x00000000#32 = gives 0xFFFFFFFF#32 := by decide

theorem test_multsC : alu 0x30000A13 0x00000007#32 0x00000000#32 = gives 0x00000046#32 ∧
    alu 0x30FFFD13 0x00000007#32 0x00000000#32 = gives 0xFFFFFFEB#32 := by decide

theorem test_multuC : alu 0x31FFFD13 0x00000007#32 0x00000000#32 = gives 0xFFFFFFEB#32 := by decide

theorem test_multfpC : alu 0x32400013 0x00020000#32 0x00000000#32 = gives 0x00008000#32 := by decide

theorem test_divsC : alu 0x33FFFD13 0x00000064#32 0x00000000#32 = gives 0xFFFFFFDF#32 ∧
    alu 0x33000A13 0xFFFFFF9C#32 0x00000000#32 = gives 0xFFFFFFF6#32 := by decide

theorem test_divuC : alu 0x34FFFD13 0x00000064#32 0x00000000#32 = gives 0x00000000#32 ∧
    alu 0x34000A13 0xFFFFFFFF#32 0x00000000#32 = gives 0x19999999#32 := by decide

theorem test_divfpC : alu 0x35400013 0x00010000#32 0x00000000#32 = gives 0x00040000#32 := by decide

theorem test_modsC : alu 0x36FFFD13 0x00000064#32 0x00000000#32 = gives 0x00000001#32 ∧
    alu 0x36FFFD13 0xFFFFFF9C#32 0x00000000#32 = gives 0xFFFFFFFF#32 := by decide

theorem test_moduC : alu 0x37FFFD13 0x00000064#32 0x00000000#32 = gives 0x00000064#32 ∧
    alu 0x37000713 0x00000064#32 0x00000000#32 = gives 0x00000002#32 := by decide

theorem test_mulshiC : alu 0x3EFFFC13 0x40000000#32 0x00000000#32 = gives 0xFFFFFFFF#32 := by decide

theorem test_multuhiC : alu 0x3FFFFC13 0x40000000#32 0x00000000#32 = gives 0x3FFFFFFF#32 := by decide

/-- R171: a division by zero and one that does not fit complete with the free values. -/
theorem test_division_free_values :
    alu 0x23000123 7#32 0#32 = gives (Config.div0 .divs 7#32) ∧ alu 0x24000123 7#32 0#32 = gives (Config.div0 .divu 7#32) ∧
    alu 0x26000123 0xFFFFFFF9#32 0#32 = gives (Config.div0 .mods 0xFFFFFFF9#32) ∧
    alu 0x27000123 7#32 0#32 = gives (Config.div0 .modu 7#32) ∧
    alu 0x25000123 0x10000#32 0#32 = gives (Config.div0 .divfp 0x10000#32) := ⟨rfl, rfl, rfl, rfl, rfl⟩

theorem test_division_overflow :
    alu 0x23000123 0x80000000#32 0xFFFFFFFF#32 = gives (Config.divOvf .divs 0x80000000#32 0xFFFFFFFF#32) ∧
    alu 0x26000123 0x80000000#32 0xFFFFFFFF#32 = gives (Config.divOvf .mods 0x80000000#32 0xFFFFFFFF#32) ∧
    alu 0x25000123 0x10000#32 1#32 = gives (Config.divOvf .divfp 0x10000#32 1#32) := ⟨rfl, rfl, rfl⟩

/-- R11: a result for r0 is dropped, and both sources are read before the destination is written. -/
theorem test_r0_and_aliasing :
    after (running 0x1000#32 0x03000120 (holding [(1#4, 5#32), (2#4, 7#32)])) (readReg · 0#4) = some 0#32 ∧
    after (running 0x1000#32 0x03000111 (holding [(1#4, 0x40000001#32)])) (readReg · 1#4) = some 0x80000002#32 := by decide

/-! ## FP64 (section 3.7) -/

theorem test_fmul : fp 0x28000012 0x0000000180000000#64 0xFFFFFFFE80000000#64 = some 0xFFFFFFFDC0000000#64 ∧
    fp 0x28000012 0xFFFFFFFFFFFFFFFF#64 1#64 = some 0xFFFFFFFFFFFFFFFF#64 := by decide

theorem test_fadd : fp 0x29000012 0x00000000FFFFFFFF#64 1#64 = some 0x0000000100000000#64 ∧
    fp 0x2900089A 0x0000000100000000#64 0x0000000200000000#64 = some 0x0000000300000000#64 := by decide

theorem test_fsub : fp 0x2A000012 0x0000000100000000#64 0x0000000200000000#64 = some 0xFFFFFFFF00000000#64 ∧
    fp 0x2A000012 0x0000000100000000#64 1#64 = some 0x00000000FFFFFFFF#64 := by decide

theorem test_fld : after (running 0x1000#32 0x2B000120 (holding [(1#4, 3#32), (2#4, 0xC0000000#32)])) (readF · 0#4) =
    some 0x00000003C0000000#64 := by decide

theorem test_fsthi : after (running 0x1000#32 0x2C000203 (writeF calm 2#4 0xFFFFFFFE80000000#64)) (readReg · 3#4) =
    some 0xFFFFFFFE#32 := by decide

theorem test_fstlo : after (running 0x1000#32 0x2D000204 (writeF calm 2#4 0xFFFFFFFE80000000#64)) (readReg · 4#4) =
    some 0x80000000#32 := by decide

/-! ## Control flow (section 3.1) -/

theorem test_halt : after (running 0x118#32 0xFFFFFFFF calm) State.pc = some 0x118#32 := by decide

theorem test_jump : after (running 0x40#32 0x97FFFFF8 calm) State.pc = some 0x03FFFFFC#32 := by decide

theorem test_jumpo : after (running 0x1E000000#32 0x90000201 calm) State.pc = some 0x1E000100#32 := by decide

theorem test_jumpr : after (running 0x1000#32 0x8FFFC030 (holding [(3#4, 0x2000#32)])) State.pc = some 0x1FFC#32 ∧
    after (running 0x1000#32 0x80004030 (holding [(3#4, 0xFFFFFFFC#32)])) State.pc = some 0#32 := by decide

theorem test_jumpro : after (running 0x1000#32 0x8FFFC031 (holding [(3#4, 0x20#32)])) State.pc = some 0x101C#32 := by decide

theorem test_beq : branch 0x60010120 0x00000005#32 0x00000005#32 = some 0x1010#32 ∧
    branch 0x60010120 0xFFFFFFFF#32 0x00000001#32 = some 0x1004#32 ∧
    branch 0x60010120 0x00000001#32 0xFFFFFFFF#32 = some 0x1004#32 := by decide

theorem test_bne : branch 0x60010128 0x00000005#32 0x00000005#32 = some 0x1004#32 ∧
    branch 0x60010128 0xFFFFFFFF#32 0x00000001#32 = some 0x1010#32 ∧
    branch 0x60010128 0x00000001#32 0xFFFFFFFF#32 = some 0x1010#32 := by decide

theorem test_bgt : branch 0x60010122 0x00000005#32 0x00000005#32 = some 0x1004#32 ∧
    branch 0x60010122 0xFFFFFFFF#32 0x00000001#32 = some 0x1010#32 ∧
    branch 0x60010122 0x00000001#32 0xFFFFFFFF#32 = some 0x1004#32 := by decide

theorem test_bge : branch 0x60010124 0x00000005#32 0x00000005#32 = some 0x1010#32 ∧
    branch 0x60010124 0xFFFFFFFF#32 0x00000001#32 = some 0x1010#32 ∧
    branch 0x60010124 0x00000001#32 0xFFFFFFFF#32 = some 0x1004#32 := by decide

theorem test_blt : branch 0x6001012A 0x00000005#32 0x00000005#32 = some 0x1004#32 ∧
    branch 0x6001012A 0xFFFFFFFF#32 0x00000001#32 = some 0x1004#32 ∧
    branch 0x6001012A 0x00000001#32 0xFFFFFFFF#32 = some 0x1010#32 := by decide

theorem test_ble : branch 0x6001012C 0x00000005#32 0x00000005#32 = some 0x1010#32 ∧
    branch 0x6001012C 0xFFFFFFFF#32 0x00000001#32 = some 0x1004#32 ∧
    branch 0x6001012C 0x00000001#32 0xFFFFFFFF#32 = some 0x1010#32 := by decide

theorem test_bgts : branch 0x60010123 0x00000005#32 0x00000005#32 = some 0x1004#32 ∧
    branch 0x60010123 0xFFFFFFFF#32 0x00000001#32 = some 0x1004#32 ∧
    branch 0x60010123 0x00000001#32 0xFFFFFFFF#32 = some 0x1010#32 := by decide

theorem test_bges : branch 0x60010125 0x00000005#32 0x00000005#32 = some 0x1010#32 ∧
    branch 0x60010125 0xFFFFFFFF#32 0x00000001#32 = some 0x1004#32 ∧
    branch 0x60010125 0x00000001#32 0xFFFFFFFF#32 = some 0x1010#32 := by decide

theorem test_blts : branch 0x6001012B 0x00000005#32 0x00000005#32 = some 0x1004#32 ∧
    branch 0x6001012B 0xFFFFFFFF#32 0x00000001#32 = some 0x1010#32 ∧
    branch 0x6001012B 0x00000001#32 0xFFFFFFFF#32 = some 0x1004#32 := by decide

theorem test_bles : branch 0x6001012D 0x00000005#32 0x00000005#32 = some 0x1010#32 ∧
    branch 0x6001012D 0xFFFFFFFF#32 0x00000001#32 = some 0x1010#32 ∧
    branch 0x6001012D 0x00000001#32 0xFFFFFFFF#32 = some 0x1004#32 := by decide

theorem test_branch_backward : after (running 0x9000#32 0x68000108 (holding [(1#4, 1#32)])) State.pc = some 0x1000#32 := by decide

theorem test_savpc : after (running 0x1E000010#32 0x50000005 calm) (fun t => (readReg t 5#4, t.pc)) =
    some (0x1E000010#32, 0x1E000014#32) := by decide

theorem test_reti : after (running 0x68#32 0x40000000 ((calm.setPcBackup 0x110#32).setIntDisabled true))
    (fun t => (t.pc, t.intDisabled, t.pcBackup)) = some (0x110#32, false, 0x110#32) := by decide

/-! ## Memory access (section 3.2) -/

theorem test_read : load32 0xE0000103 = some 0x11223344#32 ∧ load32 0xE0003103 = some 0x11223344#32 := by decide

theorem test_readb : load32 0xE0001113 = some 0x33#32 ∧ load32 0xE0004113 = some 0xFFFFFF80#32 := by decide

theorem test_readbu : load32 0xE0003153 = some 0x11#32 ∧ load32 0xE0006153 = some 0xFF#32 := by decide

theorem test_readh : load32 0xE0003123 = some 0x1122#32 ∧ load32 0xE0006123 = some 0xFFFF80FF#32 := by decide

theorem test_readhu : load32 0xE0001163 = some 0x3344#32 ∧ load32 0xE0006163 = some 0x80FF#32 := by decide

theorem test_write : store32 0xD0003140 = some (some 0xDEADBEAA#32) := by decide

theorem test_writeb : store32 0xD0001141 = some (some 0x1122AA44#32) := by decide

theorem test_writeh : store32 0xD0002142 = some (some 0xBEAA3344#32) ∧ store32 0xD0001142 = some (some 0x1122BEAA#32) := by decide

/-- R120, decision D3: the effective address wraps. -/
theorem test_address_wraps : after (running 0x1000#32 0xD0008120 (holding [(1#4, 0xFFFFFFFC#32), (2#4, 0xCAFEF00D#32)]))
    (fun t => loadWord t.mem 4) = some (some 0xCAFEF00D#32) := by decide

/-- R43: a READ of VRAM32 gets the device's answer, and the access is recorded. -/
theorem test_device_read : after (running 0x1000#32 0xE0000103 (holding [(1#4, 0x1E400000#32)]))
    (fun t => (readReg t 3#4, t.deviceLog)) = some (Config.deviceRead [] 0x1E400000, [.read 0x1E400000]) := rfl

theorem test_device_write : after (running 0x1000#32 0xD0000120 (holding [(1#4, 0x1C000003#32), (2#4, 9#32)])) State.deviceLog =
    some [.write 0x1C000000 9#32] := by decide

/-- Section 3.2, address arithmetic: the rows that stop. -/
theorem test_memory_stops :
    stopOf (running 0x1000#32 0xE0000113 (holding [(1#4, 0x1E400000#32)])) = some (.inr .subWordOutsideSdram) ∧
    stopOf (running 0x1000#32 0xD0000120 (holding [(1#4, 0x1E000000#32)])) = some (.inr .writeToRom) ∧
    stopOf (running 0x1000#32 0xE0000103 (holding [(1#4, 0x10000000#32)])) = some (.inl .unmappedAddress) ∧
    stopOf (running 0x1000#32 0xE0000103 (holding [(1#4, 0x3000#32)])) = some (.inl .unwrittenMemory) ∧
    stopOf (running 0x1000#32 0xE0000113 (holding [(1#4, 0x1F000004#32)])) = some (.inr .subWordInternalIo) := by decide

/-! ## The hardware stack and the internal registers (section 3.5) -/

theorem test_push : after (running 0x1000#32 0xB0000040 ((holding [(4#4, 0x12345678#32)]).setSp 255#8))
    (fun t => (stackAt t 255#8, t.sp)) = some (0x12345678#32, 0#8) := by decide

theorem test_pop : after (running 0x1000#32 0xA0000006
    (calm.setStack (calm.stack.set 255 0x12345678#32))) (fun t => (readReg t 6#4, t.sp)) =
    some (0x12345678#32, 255#8) := by decide

theorem test_sp_as_io : after (running 0x1000#32 0xE0004103 ((holding [(1#4, 0x1F000000#32)]).setSp 7#8)) (readReg · 3#4) =
    some 7#32 ∧
    after (running 0x1000#32 0xD0004120 (holding [(1#4, 0x1F000000#32), (2#4, 0x12345610#32)])) State.sp = some 0x10#8 := by decide

theorem test_pcBackup_as_io :
    after (running 0x1000#32 0xD0000120 (holding [(1#4, 0x1F000000#32), (2#4, 0x200#32)])) State.pcBackup = some 0x200#32 ∧
    after (running 0x1000#32 0xE0000103 ((holding [(1#4, 0x1F000003#32)]).setPcBackup 0x200#32)) (readReg · 3#4) =
      some 0x200#32 := by decide

/-! ## Interrupts, INTID and CCACHE (section 3.6) -/

/-- What an interrupt entry writes. -/
def entry (s : State) : Option (Word × Bool × BitVec 4 × Word × BitVec 8) :=
  after s fun t => (t.pcBackup, t.intDisabled, t.intId, t.pc, t.pending)

theorem test_interrupt_first_and_last_line :
    entry (running 0x40#32 0x90000200 (calm.setPending 0x01#8)) = some (0x100#32, true, 1#4, 4#32, 0#8) ∧
    entry (running 0x40#32 0x90000200 (calm.setPending 0x80#8)) = some (0x100#32, true, 8#4, 4#32, 0#8) := by decide

/-- Lines 1 and 3 together: line 1 is taken, line 3 waits. -/
theorem test_interrupt_priority :
    entry (running 0x40#32 0x90000200 (calm.setIrqEnv (.schedule [0x0A#8]))) = some (0x100#32, true, 2#4, 4#32, 0x08#8) := by decide

/-- A branch not taken is no interrupt point; a jump with int_disabled = 1 is none; HALT is one. -/
theorem test_interrupt_points :
    entry (running 0x114#32 0x6FFFC108 (calm.setPending 0x04#8)) = some (0#32, false, 1#4, 0x118#32, 0x04#8) ∧
    entry (running 0x40#32 0x90000200 ((calm.setPending 0x04#8).setIntDisabled true)) =
      some (0#32, true, 1#4, 0x100#32, 0x04#8) ∧
    entry (running 0x118#32 0xFFFFFFFF (calm.setPending 0x01#8)) = some (0x118#32, true, 1#4, 4#32, 0#8) :=
  ⟨by decide, by decide, by decide⟩

theorem test_intid : after (running 0x48#32 0xC0000007 (calm.setIntId 4#4)) (fun t => (readReg t 7#4, t.pc)) =
    some (4#32, 0x4C#32) := by decide

theorem test_ccache : after (running 0x48#32 0x70000000 (calm.setStoresSinceCcache [⟨0x2000, none⟩]))
    (fun t => (t.storesSinceCcache, t.pc)) = some ([], 0x4C#32) := by decide

/-! ## The fetch -/

/-- R81, R15, R33: the words and places at which a step is refused. -/
theorem test_fetch_stops :
    stopOf (running 0x1000#32 0x08000123 calm) = some (.inr (.reservedEncoding .reservedArith)) ∧
    stopOf (running 0x1002#32 0x03000123 calm) = some (.inr .misalignedPc) ∧
    stopOf (running 0x04000000#32 0x03000123 calm) = some (.inr .fetchOutsideInstructionMemory) ∧
    stopOf (calm.setPc 0x1000#32) = some (.inl .unwrittenMemory) := by decide

/-- R42, R230: the first fetch after reset is the first word of the boot ROM, whatever it is; a READ of the ROM gives its word. -/
theorem test_rom :
    fetchWord State.reset = .next (romWord State.reset 0x1E000000, State.reset) ∧
    after (running 0x1000#32 0xE0000103 (holding [(1#4, 0x1E000FFE#32)])) (readReg · 3#4) =
      some (wordOfBytes (Config.romImage 0xFFC#12) (Config.romImage 0xFFD#12) (Config.romImage 0xFFE#12) (Config.romImage 0xFFF#12)) :=
  ⟨rfl, rfl⟩

/-! ## Witnesses: what the hypotheses of the statements ask for exists -/

/-- `add r3, r1, r2` about to run at 0x1000. -/
def addReady : State := running 0x1000#32 0x03000123 (holding [(1#4, 5#32), (2#4, 7#32)])

/-- `write r2, r1, 0` about to run at 0x1000, to 0x2000. -/
def writeReady : State := running 0x1000#32 0xD0000120 (holding [(1#4, 0x2000#32), (2#4, 9#32)])

/-- A state in which `read r3, r1, 0` has the effective address `x`. -/
def at1 (x : Word) : State := holding [(1#4, x)]

theorem addrOf_at1 (x : Word) : addrOf (at1 x) 1#4 0#16 = x.toNat := by
  rw [addrOf, at1, holding, List.foldl_cons, List.foldl_nil, readReg_writeReg, if_pos (by simp)]
  exact congrArg BitVec.toNat (BitVec.add_zero x)

/-- `at1 x` with four bytes given from `a` on. -/
def with4 (x : Word) (a : Nat) : State := (at1 x).setMem (Memory.writeBytes [] a [0x11#8, 0x22#8, 0x33#8, 0x44#8])

/-- `at1 x` with four bytes of the ROM given from `a` on. -/
def rom4 (x : Word) (a : Nat) : State := (at1 x).setRom (Memory.writeBytes [] a [0x11#8, 0x22#8, 0x33#8, 0x44#8])

/-- The last word of SDRAM. -/
theorem witness_StepRunsDecodedInstruction_sdram :
    (running 0x03FFFFFC#32 0x03000123 State.reset).pc.toNat % 4 = 0 ∧ InSdram (0x03FFFFFC#32).toNat ∧
    (∀ r ∈ (running 0x03FFFFFC#32 0x03000123 State.reset).storesSinceCcache, r.addr ≠ 0x03FFFFFC) ∧
    readByte (running 0x03FFFFFC#32 0x03000123 State.reset) 0x03FFFFFC = some 0x23#8 ∧
    readByte (running 0x03FFFFFC#32 0x03000123 State.reset) 0x03FFFFFD = some 0x01#8 ∧
    readByte (running 0x03FFFFFC#32 0x03000123 State.reset) 0x03FFFFFE = some 0x00#8 ∧
    readByte (running 0x03FFFFFC#32 0x03000123 State.reset) 0x03FFFFFF = some 0x03#8 ∧
    decode [0x23#8, 0x01#8, 0x00#8, 0x03#8] = .ok (.add 3#4 1#4 2#4, []) := by
  unfold InSdram
  decide

/-- The last word of the ROM. -/
theorem witness_StepRunsDecodedInstruction_rom :
    (running 0x1E000FFC#32 0x40000000 State.reset).pc.toNat % 4 = 0 ∧ InRom (0x1E000FFC#32).toNat ∧
    readByte (running 0x1E000FFC#32 0x40000000 State.reset) 0x1E000FFC = some 0x00#8 ∧
    readByte (running 0x1E000FFC#32 0x40000000 State.reset) 0x1E000FFD = some 0x00#8 ∧
    readByte (running 0x1E000FFC#32 0x40000000 State.reset) 0x1E000FFE = some 0x00#8 ∧
    readByte (running 0x1E000FFC#32 0x40000000 State.reset) 0x1E000FFF = some 0x40#8 ∧
    decode [0x00#8, 0x00#8, 0x00#8, 0x40#8] = .ok (.reti, []) := by
  unfold InRom
  decide

theorem witness_DecodeOfEncodeIsIdentity : (Instr.fsub 7#4 0#4 7#4).wellFormed = true := by decide

theorem witness_OpcodeTableRowsSpellTheirInstruction :
    (⟨"BEQ", 0x60000000#32, 0xF000000E#32⟩ : OpcodeRow) ∈ opcodeTable ∧ 0x60010121#32 &&& 0xF000000E#32 = 0x60000000#32 ∧
    decodeWord 0x60010121#32 = .ok (.beq 1#4 2#4 16#16) ∧ (Instr.beq 1#4 2#4 16#16).mnemonic = "BEQ" := by decide

theorem witness_ReservedWordsAreRefusedByName :
    fetchWord (running 0x1000#32 0x38123413 State.reset) = .next (0x38123413#32, running 0x1000#32 0x38123413 State.reset) ∧
    decodeWord 0x38123413#32 = .error .reservedArithmc := ⟨rfl, by decide⟩

theorem witness_DecodedInstructionsAreWellFormed : decodeWord 0x2900089A#32 = .ok (.fadd 2#4 0#4 1#4) := by decide

/-- Every word class with all its x bits set. -/
theorem witness_DontCareBitsAreIgnored :
    (0xCFFFFFFF#32).toNat / 2 ^ 28 = 12 ∧ (0xBFFFFFFF#32).toNat / 2 ^ 28 = 11 ∧ (0xAFFFFFFF#32).toNat / 2 ^ 28 = 10 ∧
    ((0x8FFFFFFE#32).toNat / 2 ^ 28 = 8 ∧ (0x8FFFFFFE#32).toNat % 2 = 0) ∧
    ((0x8FFFFFFF#32).toNat / 2 ^ 28 = 8 ∧ (0x8FFFFFFF#32).toNat % 2 = 1) ∧
    (0x7FFFFFFF#32).toNat / 2 ^ 28 = 7 ∧ (0x5FFFFFFF#32).toNat / 2 ^ 28 = 5 ∧ (0x4FFFFFFF#32).toNat / 2 ^ 28 = 4 := by decide

theorem writeReady_inv : Inv writeReady := ⟨by decide, by decide, by decide, by decide, by decide, by decide⟩

/-- A store in SDRAM. -/
theorem witness_StepKeepsInvariant : Inv writeReady ∧ ∃ t, step writeReady = .next t := ⟨writeReady_inv, _, rfl⟩

/-- The first and the last byte of the ROM. -/
theorem witness_StepNeverChangesRom :
    (∃ t, step writeReady = .next t) ∧ InRom 0x1E000000 ∧ InRom 0x1E000FFF := by
  refine ⟨⟨_, rfl⟩, ?_⟩
  unfold InRom
  decide

theorem witness_HandlerIsEnteredOnlyByTakenJumps :
    ∃ t, exec (.jump 0x100#27) (calm.setPending 0x80#8) = .next t ∧ calm.intDisabled = false ∧
      t.intDisabled = true := ⟨_, rfl, rfl, rfl⟩

/-- RETI ends a handler; an entry changes int_id. -/
theorem witness_OnlyRetiEnablesInterrupts :
    (∃ t, exec .reti (State.reset.setIntDisabled true) = .next t ∧ t.intDisabled = false) ∧
    (∃ t, exec .halt (calm.setPending 0x80#8) = .next t ∧ t.intId ≠ calm.intId) :=
  ⟨⟨_, rfl, rfl⟩, ⟨_, rfl, by decide⟩⟩

theorem witness_OnlyTheDestinationRegisterChanges :
    (∃ t, exec (.add 3#4 1#4 2#4) addReady = .next t) ∧ destReg (.add 3#4 1#4 2#4) ≠ some 2#4 ∧
    (∃ t, exec (.push 3#4) addReady = .next t) ∧ destReg (.push 3#4) ≠ some 3#4 :=
  ⟨⟨_, rfl⟩, by decide, ⟨_, rfl⟩, by decide⟩

theorem witness_OnlyFp64InstructionsChangeFp64Registers :
    (∃ t, exec (.fadd 2#4 0#4 1#4) State.reset = .next t) ∧
    (∀ fd, destFReg (.fadd 2#4 0#4 1#4) = some fd → (3#4).toNat % 8 ≠ fd.toNat % 8) := by
  refine ⟨⟨_, rfl⟩, fun fd h => ?_⟩
  obtain rfl := Option.some.inj h
  decide

theorem witness_OnlyStoresChangeMemory :
    (∃ t, exec (.push 1#4) addReady = .next t) ∧ isWrite (.push 1#4) = false ∧ Instr.push 1#4 ≠ .ccache :=
  ⟨⟨_, rfl⟩, rfl, by decide⟩

theorem witness_OnlyPushChangesTheStack :
    (∃ t, exec (.add 3#4 1#4 2#4) addReady = .next t) ∧ (∀ b, Instr.add 3#4 1#4 2#4 ≠ .push b) ∧
    (∀ d, Instr.add 3#4 1#4 2#4 ≠ .pop d) ∧ (∀ b a c, Instr.add 3#4 1#4 2#4 ≠ .write b a c) :=
  ⟨⟨_, rfl⟩, by simp, by simp, by simp⟩

/-- Each misalignment, and the aligned addresses around the two instruction memories. -/
theorem witness_StepRefusesABadPc :
    (∀ x ∈ [0x1001#32, 0x1002#32, 0x1003#32, 0xFFFFFFFF#32], (State.reset.setPc x).pc.toNat % 4 ≠ 0) ∧
    (∀ x ∈ [0x04000000#32, 0x1C000000#32, 0x1DFFFFFC#32, 0x1E001000#32, 0x1F000000#32, 0xFFFFFFFC#32],
      (State.reset.setPc x).pc.toNat % 4 = 0 ∧ ¬ InSdram (State.reset.setPc x).pc.toNat ∧
        ¬ InRom (State.reset.setPc x).pc.toNat) := by
  simp [InSdram, InRom]

/-- A word stored to since the latest CCACHE, which had a value before and has one now. -/
def racing : State :=
  (running 0x2000#32 0x40000000 State.reset).setStoresSinceCcache [⟨0x2000, some 0x70000000#32⟩]

theorem witness_FetchSeesAHeldValue :
    (InSdram (0x1000#32).toNat ∧ fetchWord addReady = .next (0x03000123#32, addReady)) ∧
    InSdram racing.pc.toNat ∧ racing.pc.toNat % 4 = 0 ∧ loadWord racing.mem racing.pc.toNat ≠ none ∧
    (∀ r ∈ racing.storesSinceCcache, r.addr = racing.pc.toNat → r.before ≠ none) := by
  refine ⟨⟨by unfold InSdram; decide, rfl⟩, by unfold InSdram; decide, by decide, by decide, by decide⟩

/-- The last word of SDRAM. -/
theorem witness_CcacheMakesStoredCodeFetchable :
    ∃ t u, exec (.write 2#4 1#4 3#16) (holding [(1#4, 0x03FFFFFC#32), (2#4, 0x40000000#32)]) = .next t ∧
      InSdram (addrOf (holding [(1#4, 0x03FFFFFC#32), (2#4, 0x40000000#32)]) 1#4 3#16) ∧ exec .ccache t = .next u ∧
      (0x03FFFFFC#32).toNat = addrOf (holding [(1#4, 0x03FFFFFC#32), (2#4, 0x40000000#32)]) 1#4 3#16 / 4 * 4 :=
  ⟨_, _, rfl, by unfold InSdram; decide, rfl, by decide⟩

theorem witness_HaltWithoutInterruptChangesNothing :
    ((calm.setPending 0x01#8).setIntDisabled true).intDisabled = true ∧ (calm.intDisabled = false ∧ offered calm = 0#8) ∧
    (calm.pending = 0#8 ∧ calm.irqEnv = .schedule []) := by decide

/-- The three situations of a taken jump, the third at both ends of the line numbers. -/
theorem witness_JumpResult :
    (calm.setIntDisabled true).intDisabled = true ∧
    (calm.intDisabled = false ∧ offered calm = 0#8) ∧
    LowestLine (offered (calm.setPending 0xFF#8)) 0 ∧ LowestLine (offered (calm.setIrqEnv (.schedule [0x80#8]))) 7 := by
  unfold LowestLine
  decide

/-- Each condition holds of some operands and fails of some. -/
theorem witness_BranchesFollowTheirConditions :
    (5#32 = 5#32 ∧ ¬ 5#32 = 6#32) ∧ ((0xFFFFFFFF#32).toNat > (1#32).toNat ∧ ¬ (1#32).toNat > (1#32).toNat) ∧
    ((1#32).toNat ≥ (1#32).toNat ∧ ¬ (0#32).toNat ≥ (1#32).toNat) ∧
    ((0xFFFFFFFF#32).toInt < (1#32).toInt ∧ ¬ (1#32).toInt < (1#32).toInt) ∧
    ((0x80000000#32).toInt ≤ (0x7FFFFFFF#32).toInt ∧ ¬ (0x7FFFFFFF#32).toInt ≤ (0x80000000#32).toInt) := by decide

theorem witness_SavpcWritesItsOwnAddress :
    (0x50000005#32).toNat / 2 ^ 28 = 5 ∧ (0x50000005#32).toNat / 2 ^ 4 % 2 ^ 24 = 0 := by decide

theorem witness_PushStoresAndCountsUp :
    (0xB0000040#32).toNat / 2 ^ 28 = 11 ∧ (0xB0000040#32).toNat / 2 ^ 8 % 2 ^ 20 = 0 ∧ (0xB0000040#32).toNat % 2 ^ 4 = 0 := by decide

/-- The first and the last line. -/
theorem witness_InterruptedJumpResumesAtItsTarget :
    (∃ t u v, (calm.setPending 0xFF#8).intDisabled = false ∧ LowestLine (offered (calm.setPending 0xFF#8)) 0 ∧
      exec (.jump 0x100#27) (calm.setPending 0xFF#8) = .next t ∧ exec (.intid 7#4) t = .next u ∧ exec .reti u = .next v) ∧
    (∃ t u v, (calm.setPending 0x80#8).intDisabled = false ∧ LowestLine (offered (calm.setPending 0x80#8)) 7 ∧
      exec (.jump 0x100#27) (calm.setPending 0x80#8) = .next t ∧ exec (.intid 0#4) t = .next u ∧ exec .reti u = .next v) := by
  unfold LowestLine
  exact ⟨⟨_, _, _, rfl, by decide, rfl, rfl, rfl⟩, ⟨_, _, _, rfl, by decide, rfl, rfl, rfl⟩⟩

/-- The last byte address of SDRAM, and the first and last of the ROM. -/
theorem witness_ReadLoadsTheAlignedWord :
    ∀ p ∈ [(with4 0x03FFFFFF#32 0x03FFFFFC), (rom4 0x1E000000#32 0x1E000000), (rom4 0x1E000FFF#32 0x1E000FFC)],
      (InSdram (addrOf p 1#4 0#16) ∨ InRom (addrOf p 1#4 0#16)) ∧
      readByte p (addrOf p 1#4 0#16 / 4 * 4) = some 0x11#8 ∧ readByte p (addrOf p 1#4 0#16 / 4 * 4 + 1) = some 0x22#8 ∧
      readByte p (addrOf p 1#4 0#16 / 4 * 4 + 2) = some 0x33#8 ∧ readByte p (addrOf p 1#4 0#16 / 4 * 4 + 3) = some 0x44#8 := by
  unfold InSdram InRom
  decide +kernel

/-- The first and the last byte address of the ROM, with no byte given and with some given. -/
theorem witness_RomReadsGiveTheImage :
    (∀ x ∈ [0x1E000000#32, 0x1E000FFF#32], InRom (addrOf (at1 x) 1#4 0#16)) ∧ (at1 0x1E000FFF#32).rom = [] ∧
    InRom (addrOf (rom4 0x1E000000#32 0x1E000000) 1#4 0#16) := by
  refine ⟨by simp [addrOf_at1, InRom], rfl, ?_⟩
  rw [show addrOf (rom4 0x1E000000#32 0x1E000000) 1#4 0#16 = 0x1E000000 from addrOf_at1 _]
  simp [InRom]

/-- The last byte address of SDRAM, for the byte forms and (aligned down) the halfword forms. -/
theorem witness_SubWordReadsExtend :
    InSdram (addrOf (with4 0x03FFFFFF#32 0x03FFFFFC) 1#4 0#16) ∧
    readByte (with4 0x03FFFFFF#32 0x03FFFFFC) (addrOf (with4 0x03FFFFFF#32 0x03FFFFFC) 1#4 0#16) = some 0x44#8 ∧
    readByte (with4 0x03FFFFFF#32 0x03FFFFFC) (addrOf (with4 0x03FFFFFF#32 0x03FFFFFC) 1#4 0#16 / 2 * 2) = some 0x33#8 ∧
    readByte (with4 0x03FFFFFF#32 0x03FFFFFC) (addrOf (with4 0x03FFFFFF#32 0x03FFFFFC) 1#4 0#16 / 2 * 2 + 1) = some 0x44#8 := by
  unfold InSdram
  decide

/-- For both statements about stores. -/
theorem witness_WritesToSdram : InSdram (addrOf (at1 0#32) 1#4 0#16) ∧ InSdram (addrOf (at1 0x03FFFFFF#32) 1#4 0#16) ∧
    InSdram (addrOf (at1 0#32) 0#4 0x7FFF#16) := by
  unfold InSdram
  decide

/-- The first and last byte address of each register. -/
theorem witness_InternalRegistersAreReadAndWrittenAsWords :
    (∀ x ∈ [0x1F000000#32, 0x1F000003#32], addrOf (at1 x) 1#4 0#16 / 4 = 0x1F000000 / 4) ∧
    (∀ x ∈ [0x1F000004#32, 0x1F000007#32], addrOf (at1 x) 1#4 0#16 / 4 = 0x1F000004 / 4) := by
  simp [addrOf_at1]

/-- The first and last byte address of each device region. -/
theorem witness_DeviceAccessesHappenOnceInOrder :
    ∀ x ∈ [0x1C000000#32, 0x1C00006F#32, 0x1E400000#32, 0x1E40107F#32, 0x1E800000#32, 0x1E808007#32, 0x1EC00000#32,
      0x1EC4AFFF#32], InDevice (addrOf (at1 x) 1#4 0#16) := by
  simp [addrOf_at1, InDevice]

/-- The ends of a word, at the top of the address space too, and of a halfword. -/
theorem witness_LowAddressBitsAreIgnored :
    addrOf (at1 0x2000#32) 1#4 0#16 / 4 = addrOf (at1 0x2000#32) 1#4 3#16 / 4 ∧
    addrOf (at1 0xFFFFFFFC#32) 1#4 0#16 / 4 = addrOf (at1 0xFFFFFFFC#32) 1#4 3#16 / 4 ∧
    addrOf (at1 0x2000#32) 1#4 2#16 / 2 = addrOf (at1 0x2000#32) 1#4 3#16 / 2 := by decide +kernel

/-- The first and last address of each unmapped range. -/
theorem witness_UnmappedAccessesStop :
    ∀ x ∈ [0x04000000#32, 0x1BFFFFFF#32, 0x1C000070#32, 0x1DFFFFFF#32, 0x1E001000#32, 0x1E3FFFFF#32, 0x1E401080#32,
      0x1E7FFFFF#32, 0x1E808008#32, 0x1EBFFFFF#32, 0x1EC4B000#32, 0x1EFFFFFF#32, 0x1F000008#32, 0xFFFFFFFF#32],
      IsUnmapped (addrOf (at1 x) 1#4 0#16) := by
  simp [addrOf_at1, IsUnmapped]

/-- The ends of the ROM, of a device region and of the internal registers. -/
theorem witness_RomWritesAndSubWordAccessesAreRefused :
    (∀ x ∈ [0x1E000000#32, 0x1E000FFF#32], InRom (addrOf (at1 x) 1#4 0#16)) ∧
    (∀ x ∈ [0x1C000000#32, 0x1EC4AFFF#32], InDevice (addrOf (at1 x) 1#4 0#16)) ∧
    (∀ x ∈ [0x1F000000#32, 0x1F000007#32], InInternal (addrOf (at1 x) 1#4 0#16)) := by
  simp [addrOf_at1, InRom, InDevice, InInternal]

/-- A word of which only the last byte has no value, and the last word of SDRAM with none; a halfword; the last byte. -/
theorem witness_ReadsOfUnwrittenMemoryStop :
    (InSdram (addrOf (with4 0x2001#32 0x1FFF) 1#4 0#16) ∧
      ∃ k, k < 4 ∧ readByte (with4 0x2001#32 0x1FFF) (addrOf (with4 0x2001#32 0x1FFF) 1#4 0#16 / 4 * 4 + k) = none) ∧
    (InSdram (addrOf (with4 0x03FFFFFF#32 0x2000) 1#4 0#16) ∧
      ∃ k, k < 4 ∧ readByte (with4 0x03FFFFFF#32 0x2000) (addrOf (with4 0x03FFFFFF#32 0x2000) 1#4 0#16 / 4 * 4 + k) = none) ∧
    (InSdram (addrOf (with4 0x2000#32 0x1FFD) 1#4 0#16) ∧
      ∃ k, k < 2 ∧ readByte (with4 0x2000#32 0x1FFD) (addrOf (with4 0x2000#32 0x1FFD) 1#4 0#16 / 2 * 2 + k) = none) ∧
    (InSdram (addrOf (at1 0x03FFFFFF#32) 1#4 0#16) ∧ readByte (at1 0x03FFFFFF#32) (addrOf (at1 0x03FFFFFF#32) 1#4 0#16) = none) := by
  unfold InSdram
  exact ⟨⟨by decide, 3, by decide, by decide⟩, ⟨by decide, 0, by decide, by decide⟩, ⟨by decide, 1, by decide, by decide⟩,
    by decide, by decide⟩

/-- All four bytes and both halves of the last word of SDRAM. -/
theorem witness_MixedWidthReadsAfterAWrite :
    InSdram (addrOf (at1 0x03FFFFFF#32) 1#4 0#16) ∧ ∃ t, exec (.write 2#4 1#4 0#16) (at1 0x03FFFFFF#32) = .next t ∧
      (∀ k : Nat, k < 4 → addrOf t 1#4 (BitVec.ofInt 16 ((k : Int) - 3)) = addrOf (at1 0x03FFFFFF#32) 1#4 0#16 / 4 * 4 + k) ∧
      (∀ k : Nat, k < 2 → addrOf t 1#4 (BitVec.ofInt 16 (2 * (k : Int) - 3)) = addrOf (at1 0x03FFFFFF#32) 1#4 0#16 / 4 * 4 + 2 * k) :=
  ⟨by unfold InSdram; decide, _, rfl, by decide, by decide⟩

/-- From the last stack entry. -/
theorem witness_PushThenPopMovesTheValue :
    ∃ t u, exec (.push 1#4) (addReady.setSp 255#8) = .next t ∧ exec (.pop 2#4) t = .next u := ⟨_, _, rfl, rfl⟩

theorem witness_LoadThenLoadhiBuildsAnyConstant :
    ∃ t u, 15#4 ≠ 0#4 ∧ exec (.loadC 15#4 0#4 0xBEEF#16) State.reset = .next t ∧
      exec (.loadhiC 15#4 15#4 0xDEAD#16) t = .next u := ⟨_, _, by decide, rfl, rfl⟩

/-- The words of `AluWords` (the first with its x bits set) and `AluCanonicalWords`: one of each primary opcode, with the ALU opcodes the
statements name. -/
theorem witness_AluWords :
    (0x00FFF123#32).toNat / 2 ^ 24 % 16 = 0 ∧ (0x00FFF123#32).toNat / 2 ^ 28 = 0 ∧
    (∀ p ∈ [(0x00000123#32, 0), (0x01000123#32, 1), (0x02000123#32, 2), (0x03000123#32, 3), (0x04000123#32, 4), (0x07000123#32, 7),
      (0x0A000123#32, 10), (0x0B000123#32, 11)],
      p.1.toNat / 2 ^ 24 % 16 = p.2 ∧ p.1.toNat / 2 ^ 28 = 0 ∧ p.1.toNat / 2 ^ 12 % 2 ^ 12 = 0) ∧
    (0x10123413#32).toNat / 2 ^ 28 = 1 ∧
    (∀ p ∈ [(0x21000123#32, 1), (0x24000123#32, 4), (0x27000123#32, 7), (0x2E000123#32, 14), (0x2F000123#32, 15)],
      p.1.toNat / 2 ^ 24 % 16 = p.2 ∧ p.1.toNat / 2 ^ 28 = 2 ∧ p.1.toNat / 2 ^ 12 % 2 ^ 12 = 0) ∧
    ((0x3F123413#32).toNat / 2 ^ 24 % 16 = 15 ∧ (0x3F123413#32).toNat / 2 ^ 28 = 3) := by decide

/-- The words of FMUL, FADD, FSUB, FLD, FSTHI and FSTLO with ignored bits set. -/
theorem witness_Fp64Words :
    ∀ p ∈ [(0x28FFF89A#32, 8), (0x2900089A#32, 9), (0x2A00089A#32, 10), (0x2B0009AD#32, 11), (0x2C000AF3#32, 12), (0x2D000A04#32, 13)],
      p.1.toNat / 2 ^ 28 = 2 ∧ p.1.toNat / 2 ^ 24 % 16 = p.2 := by decide

/-- The canonical words of FADD and FSUB, of FLD, and of FSTHI and FSTLO, at the highest FP64 register. -/
theorem witness_Fp64CanonicalWords :
    (∀ p ∈ [(0x29000777#32, 9), (0x2A000777#32, 10)],
      p.1.toNat / 2 ^ 28 = 2 ∧ p.1.toNat / 2 ^ 24 % 16 = p.2 ∧ p.1.toNat / 2 ^ 12 % 2 ^ 12 = 0 ∧ p.1.toNat / 2 ^ 8 % 16 < 8 ∧
        p.1.toNat / 2 ^ 4 % 16 < 8 ∧ p.1.toNat % 16 < 8) ∧
    ((0x2B000FF7#32).toNat / 2 ^ 28 = 2 ∧ (0x2B000FF7#32).toNat / 2 ^ 24 % 16 = 11 ∧ (0x2B000FF7#32).toNat / 2 ^ 12 % 2 ^ 12 = 0 ∧
      (0x2B000FF7#32).toNat % 16 < 8) ∧
    (∀ p ∈ [(0x2C00070F#32, 12), (0x2D00070F#32, 13)],
      p.1.toNat / 2 ^ 28 = 2 ∧ p.1.toNat / 2 ^ 24 % 16 = p.2 ∧ p.1.toNat / 2 ^ 12 % 2 ^ 12 = 0 ∧ p.1.toNat / 2 ^ 8 % 16 < 8 ∧
        p.1.toNat / 2 ^ 4 % 16 = 0) := by decide

end Sys2Proof.Tests
end

section
/-! The statements of 10_state.md about reset: the values of each field of `State.reset`, and how memory reads there. -/

namespace Sys2Proof.Machine

/-! ## What reset reads as -/

theorem readReg_reset (r : Reg) : readReg State.reset r = 0#32 := by
  unfold readReg
  split
  · rfl
  · exact Vector.getElem_replicate _

theorem readF_reset (f : FReg) : readF State.reset f = 0#64 := Vector.getElem_replicate _

theorem stackAt_reset (i : BitVec 8) : stackAt State.reset i = 0#32 := Vector.getElem_replicate _

/-- SDRAM lists no byte at reset (log entry 3). -/
theorem readByte_reset_of_inSdram {a : Nat} (h : InSdram a) : readByte State.reset a = none :=
  readByte_sdram State.reset (regionOf_sdram.2 h)

/-- No byte of the ROM is given at reset, so each is the free one (log entry 4). -/
theorem readByte_reset_of_inRom {a : Nat} (h : InRom a) :
    readByte State.reset a = some (Config.romImage (BitVec.ofNat 12 a)) :=
  readByte_rom State.reset (regionOf_rom.2 h)

/-- Nothing waits at reset, so the first interrupt point is offered what the free environment raises (log entry 5). -/
theorem offered_reset : offered State.reset = Config.irqEnv 0 &&& 0x3F#8 := by
  change 0#8 ||| (Config.irqEnv 0 &&& 0x3F#8) = _
  exact BitVec.zero_or

/-! ## The obligations about reset -/

/-- Settles O9, field by field. -/
theorem resetHoldsTheGivenValues : Obligations.ResetHoldsTheGivenValues :=
  ⟨readReg_zero State.reset, rfl, rfl, fun _ => readByte_reset_of_inSdram, fun _ => readByte_reset_of_inRom, rfl, rfl,
    offered_reset⟩

/-- Settles O10, register file by register file. -/
theorem resetHoldsTheChosenValues : Obligations.ResetHoldsTheChosenValues :=
  ⟨readReg_reset, readF_reset, stackAt_reset, rfl, rfl, rfl⟩

/-- Settles O12: the lists of the invariant are empty at reset, and int_id is 1. -/
theorem resetMeetsInvariant : Obligations.ResetMeetsInvariant where
  memSorted := List.Pairwise.nil
  memInSdram := fun _ h => absurd h List.not_mem_nil
  romSorted := List.Pairwise.nil
  romInRom := fun _ h => absurd h List.not_mem_nil
  storesInSdram := fun _ h => absurd h List.not_mem_nil
  intIdRange := by decide

end Sys2Proof.Machine
end

section
/-! The statements of 10_state.md about who may write what (R28): for each part of the state one case analysis over the forms a next state
of `exec` can have (`ExecShape`). -/

namespace Sys2Proof.Machine

/-! ## General registers -/

theorem readReg_advance_writeReg_of_ne (s : State) {d r : Reg} (v : Word) (h : r ≠ d) :
    readReg (advance (writeReg s d v)) r = readReg s r := by
  rw [readReg_advance_writeReg, if_neg fun hrd => h hrd.1]

/-- Settles O16: only the three forms that end with `writeReg` touch the register file, and they write the destination. -/
theorem onlyTheDestinationRegisterChanges : Obligations.OnlyTheDestinationRegisterChanges := by
  intro i s t r h hr
  cases exec_next h with
  | reg v hd => exact readReg_advance_writeReg_of_ne s v fun e => hr (e ▸ hd)
  | deviceRead d a c v x =>
    calc readReg _ r = readReg (deviceLoad s x).2 r :=
          readReg_advance_writeReg_of_ne _ v fun e => hr (congrArg some e.symm)
      _ = readReg s r := readReg_congr (deviceLoad_gpr s x) r
  | pop d v =>
    calc readReg _ r = readReg (s.setSp (s.sp - 1#8)) r :=
          readReg_advance_writeReg_of_ne _ v fun e => hr (congrArg some e.symm)
      _ = readReg s r := readReg_congr (State.setSp_gpr s _) r
  | push | freg | store | deviceWrite | internalWrite | jump | untaken | ccache | reti => exact readReg_congr (by simp) r

/-! ## FP64 registers -/

theorem readF_advance_writeF_of_ne (s : State) {d f : FReg} (v : FWord) (h : f.toNat % 8 ≠ d.toNat % 8) :
    readF (advance (writeF s d v)) f = readF s f := by
  rw [readF_congr (advance_fpr _), readF_writeF, if_neg h]

/-- Settles O17: only the form that ends with `writeF` touches the FP64 registers. -/
theorem onlyFp64InstructionsChangeFp64Registers : Obligations.OnlyFp64InstructionsChangeFp64Registers := by
  intro i s t f h hf
  cases exec_next h with
  | freg v _ hfd => exact readF_advance_writeF_of_ne s v (hf _ hfd)
  | reg | deviceRead | pop | push | store | deviceWrite | internalWrite | jump | untaken | ccache | reti =>
    exact readF_congr (by simp) f

/-! ## Memory and the fetch record -/

/-- Settles O18: the forms of the three stores are excluded, and of the others only CCACHE's touches the record. -/
theorem onlyStoresChangeMemory : Obligations.OnlyStoresChangeMemory := by
  intro i s t h hw
  cases exec_next h with
  | store _ _ _ hw' => exact absurd (hw'.symm.trans hw) (by decide)
  | deviceWrite | internalWrite => exact absurd hw (by simp [isWrite])
  | ccache => exact ⟨readByte_congr (by simp) (by simp), fun hc => absurd rfl hc⟩
  | reg | deviceRead | pop | push | freg | jump | untaken | reti =>
    exact ⟨readByte_congr (by simp) (by simp), fun _ => by simp⟩

/-! ## The hardware stack -/

/-- Settles O19: only PUSH's form writes the stack; of the others only POP's and the WRITE to an internal register touch SP. -/
theorem onlyPushChangesTheStack : Obligations.OnlyPushChangesTheStack := by
  intro i s t h hpush
  cases exec_next h with
  | push b v => exact absurd rfl (hpush b)
  | pop d v => exact ⟨stackAt_congr (by simp), fun hpop _ => absurd rfl (hpop d)⟩
  | internalWrite b a c x v => exact ⟨stackAt_congr (by simp), fun _ hwrite => absurd rfl (hwrite b a c)⟩
  | reg | deviceRead | freg | store | deviceWrite | jump | untaken | ccache | reti =>
    exact ⟨stackAt_congr (by simp), fun _ _ => by simp⟩

/-! ## int_disabled and int_id -/

/-- A taken jump leaves int_disabled and int_id alone, or it enters the handler from a state with interrupts enabled (60_exceptions.md
R206, R207). -/
theorem takeJump_intDisabled_intId (s : State) (target : Word) :
    ((takeJump s target).intDisabled = s.intDisabled ∧ (takeJump s target).intId = s.intId) ∨
    (s.intDisabled = false ∧ (takeJump s target).intDisabled = true) := by
  rcases takeJump_cases s target with ⟨_, h⟩ | ⟨_, _, h⟩ | ⟨k, hd, _, h⟩ <;> rw [h]
  · exact .inl (by simp)
  · exact .inl (by simp)
  · exact .inr ⟨hd, by simp⟩

/-- All that an instruction can do to int_disabled and int_id: nothing, an interrupt entry, or RETI (10_state.md R20, R21). -/
theorem exec_intDisabled_intId {i : Instr} {s t : State} (h : exec i s = .next t) :
    (t.intDisabled = s.intDisabled ∧ t.intId = s.intId) ∨ (s.intDisabled = false ∧ t.intDisabled = true) ∨
    (i = .reti ∧ t.intDisabled = false ∧ t.intId = s.intId) := by
  cases exec_next h with
  | jump target => exact (takeJump_intDisabled_intId s target).imp_right .inl
  | reti => exact .inr (.inr ⟨rfl, by simp⟩)
  | reg | deviceRead | pop | push | freg | store | deviceWrite | internalWrite | untaken | ccache => exact .inl (by simp)

/-- Settles O15, from the three things an instruction can do to the two fields. -/
theorem onlyRetiEnablesInterrupts : Obligations.OnlyRetiEnablesInterrupts := by
  intro i s t h
  rcases exec_intDisabled_intId h with ⟨hd, hid⟩ | ⟨hs, ht⟩ | ⟨hi, _, hid⟩
  · exact ⟨fun hs ht => absurd (ht.symm.trans (hd.trans hs)) (by decide), fun hne => absurd hid hne⟩
  · exact ⟨fun _ ht' => absurd (ht'.symm.trans ht) (by decide), fun _ => ⟨hs, ht⟩⟩
  · exact ⟨fun _ _ => hi, fun hne => absurd hid hne⟩

end Sys2Proof.Machine
end

section
/-! The statement of 10_state.md R15 about the fetch. -/

namespace Sys2Proof.Machine

theorem fetchWord_misaligned {s : State} (h : s.pc.toNat % 4 ≠ 0) : fetchWord s = .refused .misalignedPc := by
  rw [fetchWord, if_pos h]

theorem fetchWord_outside {s : State} (h4 : s.pc.toNat % 4 = 0) (hsdram : ¬ InSdram s.pc.toNat) (hrom : ¬ InRom s.pc.toNat) :
    fetchWord s = .refused .fetchOutsideInstructionMemory := by
  rw [fetchWord, if_neg (not_not.2 h4)]
  split
  case h_1 hreg => exact absurd (regionOf_sdram.1 hreg) hsdram
  case h_2 hreg => exact absurd (regionOf_rom.1 hreg) hrom
  all_goals rfl

theorem step_of_fetchWord_refused {s : State} {e : Refusal} (h : fetchWord s = .refused e) : step s = .refused e := by
  rw [step, h, andThen_refused]

/-- Settles O20: a step stops as its fetch does. -/
theorem stepRefusesABadPc : Obligations.StepRefusesABadPc := fun _ =>
  ⟨fun h => step_of_fetchWord_refused (fetchWord_misaligned h),
    fun h4 hsdram hrom => step_of_fetchWord_refused (fetchWord_outside h4 hsdram hrom)⟩

end Sys2Proof.Machine
end

section
/-! The statements of 10_state.md about the hardware stack (R17) and the CPU-internal registers (R18, R19). -/

namespace Sys2Proof.Machine

/-! ## PUSH and POP -/

/-- What POP finds after a PUSH, and where it leaves SP, the wrap at 255 included. -/
theorem popStack_advance_pushStack (s : State) (v : Word) :
    (popStack (advance (pushStack s v))).1 = v ∧ (popStack (advance (pushStack s v))).2.sp = s.sp := by
  have hsp : (advance (pushStack s v)).sp - 1#8 = s.sp := by simp
  refine ⟨?_, hsp⟩
  calc (popStack (advance (pushStack s v))).1 = stackAt (advance (pushStack s v)) s.sp := by rw [popStack, hsp]
    _ = stackAt (pushStack s v) s.sp := stackAt_congr (advance_stack _) _
    _ = v := by rw [stackAt_pushStack, if_pos rfl]

/-- Settles O43, from the value `popStack` finds and the frames of `pushStack` and `popStack`. -/
theorem pushThenPopMovesTheValue : Obligations.PushThenPopMovesTheValue := by
  intro s t u b d hpush hpop
  obtain rfl := Host.Outcome.next.inj (hpush : execPush b s = _)
  obtain rfl := Host.Outcome.next.inj (hpop : execPop d _ = _)
  obtain ⟨hval, hsp⟩ := popStack_advance_pushStack s (readReg s b)
  refine ⟨by rw [advance_sp, writeReg_sp, hsp], fun r => ?_, fun i hi => ?_, readByte_congr (by simp) (by simp)⟩
  · rw [readReg_advance_writeReg, hval]
    exact if_congr Iff.rfl rfl (readReg_congr (by simp) r)
  · calc stackAt _ i = stackAt (pushStack s (readReg s b)) i := stackAt_congr (by simp) i
      _ = stackAt s i := by rw [stackAt_pushStack, if_neg hi]

/-! ## PC_backup and SP as words of the address space -/

theorem alignDown_effAddr (s : State) (a : Reg) (c : Const16) (n : Nat) :
    alignDown (effAddr s a c) n = addrOf s a c / n * n := by
  rw [alignDown, effAddr_toNat]

/-- A word READ of CPU internal I/O (20_memory.md R44). -/
theorem exec_read_internal {s : State} {a : Reg} {c : Const16} {x : Nat} (d : Reg) (haddr : addrOf s a c / 4 * 4 = x)
    (hx : regionOf x = .internal) : exec (.read d a c) s = .next (advance (writeReg s d (internalLoad s x))) := by
  have hread : memReadWord s (effAddr s a c) = .next (internalLoad s x, s) := by
    rw [memReadWord, alignDown_effAddr, haddr, hx]
  change execRead d a c s = _
  rw [execRead, hread, andThen_ok]

/-- A word WRITE of CPU internal I/O (20_memory.md R44). -/
theorem exec_write_internal {s : State} {a : Reg} {c : Const16} {x : Nat} (b : Reg) (haddr : addrOf s a c / 4 * 4 = x)
    (hx : regionOf x = .internal) : exec (.write b a c) s = .next (advance (internalStore s x (readReg s b))) := by
  have hwrite : memWriteWord s (effAddr s a c) (readReg s b) = .next (internalStore s x (readReg s b)) := by
    rw [memWriteWord, alignDown_effAddr, haddr, hx]
  change execWrite b a c s = _
  rw [execWrite, hwrite, afterStore, andThen_ok]

/-- The word of PC_backup (10_state.md R19). -/
theorem aligned_pcBackup {x : Nat} (h : x / 4 = 0x1F000000 / 4) : x / 4 * 4 = pcBackupAddress := by
  rw [h, pcBackupAddress]

/-- The word of SP (10_state.md R18). -/
theorem aligned_sp {x : Nat} (h : x / 4 = 0x1F000004 / 4) : x / 4 * 4 = 0x1F000004 := by
  rw [h]

theorem regionOf_pcBackup : regionOf pcBackupAddress = .internal := regionOf_internal.2 (by simp [pcBackupAddress])

theorem regionOf_spAddress : regionOf 0x1F000004 = .internal := regionOf_internal.2 (by simp)

theorem internalLoad_pcBackup (s : State) : internalLoad s pcBackupAddress = s.pcBackup := if_pos rfl

theorem internalLoad_spAddress (s : State) : internalLoad s 0x1F000004 = BitVec.ofNat 32 s.sp.toNat := by
  rw [internalLoad, if_neg (by decide), BitVec.ofNat_toNat]

/-- What a word write to CPU internal I/O leaves alone, whichever of the two registers it goes to. -/
theorem advance_internalStore_frame {s t : State} {x : Nat} {v : Word} (ht : t = advance (internalStore s x v)) :
    KeepsRequests s t ∧ KeepsRegs s t ∧ KeepsFRegs s t ∧ (∀ i, stackAt t i = stackAt s i) ∧ KeepsFetch s t ∧
    KeepsDevices s t ∧ KeepsMemory s t := by
  subst ht
  exact ⟨by simp [KeepsRequests], readReg_congr (by simp), readF_congr (by simp), stackAt_congr (by simp),
    by simp [KeepsFetch], by simp [KeepsDevices], readByte_congr (by simp) (by simp)⟩

/-- The register SP takes the low eight bits of the word written (10_state.md R18, decision D20). -/
theorem internalStore_spAddress_sp (s : State) (v : Word) : (internalStore s 0x1F000004 v).sp = BitVec.ofNat 8 v.toNat := by
  rw [internalStore_sp, if_neg (by decide)]
  rfl

/-- Settles O34, a READ and a WRITE at each of the two addresses. -/
theorem internalRegistersAreReadAndWrittenAsWords : Obligations.InternalRegistersAreReadAndWrittenAsWords := by
  intro s d b a c
  refine ⟨fun h => ?_, fun h => ?_, fun h => ?_, fun h => ?_⟩
  · exact ⟨_, exec_read_internal d (aligned_pcBackup h) regionOf_pcBackup,
      internalLoad_pcBackup s ▸ regResult_advance_writeReg s d _⟩
  · exact ⟨_, exec_read_internal d (aligned_sp h) regionOf_spAddress,
      internalLoad_spAddress s ▸ regResult_advance_writeReg s d _⟩
  · obtain ⟨hreq, hregs, hfregs, hstack, hfetch, hdev, hmem⟩ := advance_internalStore_frame (s := s) rfl
    exact ⟨_, exec_write_internal b (aligned_pcBackup h) regionOf_pcBackup, by simp, by simp, by simp, by simp, hreq, hregs,
      hfregs, ⟨hstack, by simp⟩, hfetch, hdev, hmem⟩
  · obtain ⟨hreq, hregs, hfregs, hstack, hfetch, hdev, hmem⟩ := advance_internalStore_frame (s := s) rfl
    exact ⟨_, exec_write_internal b (aligned_sp h) regionOf_spAddress, internalStore_spAddress_sp s _, by simp, hstack,
      ⟨by simp [pcBackupAddress], by simp, by simp, hreq⟩, hregs, hfregs, hfetch, hdev, hmem⟩

end Sys2Proof.Machine
end

section
/-! The statements of 20_memory.md about every step: what each form of a next state leaves of the SDRAM, of the ROM and of the words
remembered for the fetch rule. -/

namespace Sys2Proof.Machine

/-! ## The ROM -/

/-- No instruction writes the bytes given of the ROM (20_memory.md R42). -/
theorem exec_rom {i : Instr} {s t : State} (h : exec i s = .next t) : t.rom = s.rom := by
  cases exec_next h with
  | reg | deviceRead | pop | push | freg | store | deviceWrite | internalWrite | jump | untaken | ccache | reti => simp

theorem step_rom {s t : State} (h : step s = .next t) : t.rom = s.rom := by
  obtain ⟨u, i, hu, hexec⟩ := step_next h
  have hfetch : u.rom = s.rom := by rcases hu with rfl | rfl <;> rfl
  exact (exec_rom hexec).trans hfetch

/-- Settles O13: a byte of the ROM is read from the field `rom`, which no step writes. -/
theorem stepNeverChangesRom : Obligations.StepNeverChangesRom := by
  intro s t a h ha
  have hrom : regionOf a = .rom := regionOf_rom.2 ha
  rw [readByte_rom t hrom, readByte_rom s hrom, romByte, romByte, step_rom h]

/-! ## The invariant -/

/-- The invariant speaks of four fields only. -/
theorem inv_congr {s t : State} (hs : Inv s) (hmem : t.mem = s.mem) (hrom : t.rom = s.rom)
    (hstores : t.storesSinceCcache = s.storesSinceCcache) (hid : t.intId = s.intId) : Inv t where
  memSorted := hmem ▸ hs.memSorted
  memInSdram := hmem ▸ hs.memInSdram
  romSorted := hrom ▸ hs.romSorted
  romInRom := hrom ▸ hs.romInRom
  storesInSdram := hstores ▸ hs.storesInSdram
  intIdRange := hid ▸ hs.intIdRange

/-- The word that holds an address of SDRAM is an aligned word of SDRAM (20_memory.md R35, R46). -/
theorem aligned_word_of_sdram {a : Nat} (h : regionOf a = .sdram) : a / 4 * 4 % 4 = 0 ∧ regionOf (a / 4 * 4) = .sdram :=
  ⟨Nat.mul_mod_left _ _, regionOf_of_inSdram (regionOf_sdram.1 h)⟩

/-- A store whose bytes all lie in SDRAM keeps the invariant (20_memory.md R38, R46, R52). -/
theorem inv_storeSdram {s : State} (hs : Inv s) {a : Nat} {bs : List Byte} (ha : regionOf a = .sdram)
    (hbs : ∀ x, a ≤ x → x < a + bs.length → regionOf x = .sdram) : Inv (storeSdram s a bs) where
  memSorted := Memory.writeBytes_wf hs.memSorted a bs
  memInSdram c hc := by
    rcases Memory.mem_writeBytes hc with ⟨hle, hlt⟩ | hold
    · exact hbs c.1 hle hlt
    · exact hs.memInSdram c hold
  romSorted := hs.romSorted
  romInRom := hs.romInRom
  storesInSdram r hr := by
    rcases List.mem_cons.1 hr with rfl | hold
    · exact aligned_word_of_sdram ha
    · exact hs.storesInSdram r hold
  intIdRange := hs.intIdRange

/-- An interrupt entry sets int_id to the line plus one (60_exceptions.md R207, 10_state.md R21). -/
theorem inv_interruptEntry {s : State} (hs : Inv s) (k : Fin 8) (target : Word) : Inv (interruptEntry s k target) where
  memSorted := hs.memSorted
  memInSdram := hs.memInSdram
  romSorted := hs.romSorted
  romInRom := hs.romInRom
  storesInSdram := hs.storesInSdram
  intIdRange := by
    rw [interruptEntry_intId, BitVec.toNat_ofNat]
    omega

theorem inv_takeJump {s : State} (hs : Inv s) (target : Word) : Inv (takeJump s target) := by
  rcases takeJump_cases s target with ⟨_, h⟩ | ⟨_, _, h⟩ | ⟨k, _, _, h⟩ <;> rw [h]
  · exact inv_congr hs rfl rfl rfl rfl
  · exact inv_congr hs rfl rfl rfl rfl
  · exact inv_interruptEntry (inv_congr (t := raiseRequests s) hs rfl rfl rfl rfl) k target

theorem inv_clearCaches {s : State} (hs : Inv s) : Inv (clearCaches s) where
  memSorted := hs.memSorted
  memInSdram := hs.memInSdram
  romSorted := hs.romSorted
  romInRom := hs.romInRom
  storesInSdram := fun _ hr => absurd hr List.not_mem_nil
  intIdRange := hs.intIdRange

/-- An instruction keeps the invariant: the three forms that write a field of it have a lemma each. -/
theorem exec_keeps_inv {i : Instr} {s t : State} (hs : Inv s) (h : exec i s = .next t) : Inv t := by
  cases exec_next h with
  | store ea n bs _ hlen hn hreg =>
    subst hlen
    exact inv_congr (inv_storeSdram hs hreg fun _ => store_stays_in_sdram hn hreg) rfl rfl rfl rfl
  | jump target => exact inv_takeJump hs target
  | ccache => exact inv_congr (inv_clearCaches hs) rfl rfl rfl rfl
  | reg | deviceRead | pop | push | freg | deviceWrite | internalWrite | untaken | reti =>
    exact inv_congr hs (by simp) (by simp) (by simp) (by simp)

/-- Settles O11: a fetch leaves the four fields of the invariant alone, and the instruction keeps it. -/
theorem stepKeepsInvariant : Obligations.StepKeepsInvariant := by
  intro s t hs h
  obtain ⟨u, i, hu, hexec⟩ := step_next h
  have hfetch : Inv u := by
    rcases hu with rfl | rfl
    · exact hs
    · exact inv_congr hs rfl rfl rfl rfl
  exact exec_keeps_inv hfetch hexec

end Sys2Proof.Machine
end

section
/-! What a word READ or WRITE that completes does in each region (41_memory_access.md R121, R126; the internal registers stand with
10_state.md above). -/

namespace Sys2Proof.Machine

section
variable {s : State} {a : Reg} {c : Const16}

/-- READ completes with the answer of `MemRead` (41_memory_access.md R121). -/
theorem exec_read_next (d : Reg) {v : Word} {t : State} (h : memReadWord s (effAddr s a c) = .next (v, t)) :
    exec (.read d a c) s = .next (advance (writeReg t d v)) := by
  change execRead d a c s = _
  rw [execRead, h, andThen_ok]

/-- WRITE completes in the state `MemWrite` leaves (41_memory_access.md R126). -/
theorem exec_write_next (b : Reg) {t : State} (h : memWriteWord s (effAddr s a c) (readReg s b) = .next t) :
    exec (.write b a c) s = .next (advance t) := by
  change execWrite b a c s = _
  rw [execWrite, h, afterStore, andThen_ok]

/-- A word WRITE to SDRAM (20_memory.md R38). -/
theorem exec_write_sdram (b : Reg) (h : InSdram (addrOf s a c)) :
    exec (.write b a c) s = .next (advance (storeSdram s (addrOf s a c / 4 * 4) (bytesOfWord (readReg s b)))) :=
  exec_write_next b (by rw [memWriteWord, alignDown_effAddr, regionOf_of_inSdram h])

/-- A word READ of the ROM (20_memory.md R42). -/
theorem exec_read_rom (d : Reg) (h : InRom (addrOf s a c)) :
    exec (.read d a c) s = .next (advance (writeReg s d (romWord s (addrOf s a c / 4 * 4)))) :=
  exec_read_next d (by rw [memReadWord, alignDown_effAddr, regionOf_of_inRom (by simp) h])

/-- A word READ of a device region (20_memory.md R43). -/
theorem exec_read_device (d : Reg) (h : InDevice (addrOf s a c)) :
    exec (.read d a c) s = .next (advance (writeReg (deviceLoad s (addrOf s a c / 4 * 4)).2 d
      (Config.deviceRead s.deviceLog (addrOf s a c / 4 * 4)))) := by
  refine exec_read_next d ?_
  rcases regionOf_of_inDevice (n := 4) (by simp) h with h | h | h | h <;> rw [memReadWord, alignDown_effAddr, h, deviceLoad]

/-- A word WRITE of a device region (20_memory.md R43). -/
theorem exec_write_device (b : Reg) (h : InDevice (addrOf s a c)) :
    exec (.write b a c) s = .next (advance (deviceStore s (addrOf s a c / 4 * 4) (readReg s b))) := by
  refine exec_write_next b ?_
  rcases regionOf_of_inDevice (n := 4) (by simp) h with h | h | h | h <;> rw [memWriteWord, alignDown_effAddr, h]

end

end Sys2Proof.Machine
end

section
/-! The statements of 20_memory.md R52 and R53 about the fetch from SDRAM. -/

namespace Sys2Proof.Machine

/-! ## What a fetch from SDRAM sees -/

theorem mem_formerValues {s : State} {a : Nat} {v : Option Word} :
    v ∈ formerValues s a ↔ ∃ r ∈ s.storesSinceCcache, r.addr = a ∧ r.before = v := by
  simp [formerValues, and_assoc]

theorem fetched_eq_next {s t : State} {v : Option Word} {w : Word} (h : fetched s v = .next (w, t)) : v = some w ∧ t = s := by
  cases v with
  | none => cases h
  | some x =>
    obtain ⟨rfl, rfl⟩ := Prod.mk.inj (Host.Outcome.next.inj h)
    exact ⟨rfl, rfl⟩

/-- The index the fetch takes lies in the list of candidates, so what it sees is one of them (20_memory.md R52). -/
theorem fetchSdram_sees (s : State) (a : Nat) :
    ∃ t, ∃ v ∈ loadWord s.mem a :: formerValues s a, fetchSdram s a = fetched t v := by
  unfold fetchSdram
  cases formerValues s a with
  | nil => exact ⟨s, _, List.mem_cons_self, rfl⟩
  | cons v vs =>
    have hidx : Config.fetchChoice s.raceCount % (vs.length + 2) < (loadWord s.mem a :: v :: vs).length :=
      Nat.mod_lt _ (Nat.succ_pos _)
    exact ⟨s.setRaceCount (s.raceCount + 1), _, List.getElem_mem hidx,
      congrArg (fetched _) (List.getD_eq_getElem _ none hidx)⟩

/-- With no store to the word since the latest CCACHE there is nothing to choose (20_memory.md R52). -/
theorem fetchSdram_coherent {s : State} {a : Nat} (h : formerValues s a = []) : fetchSdram s a = fetched s (loadWord s.mem a) := by
  rw [fetchSdram, h]

theorem fetchWord_sdram {s : State} (h4 : s.pc.toNat % 4 = 0) (h : InSdram s.pc.toNat) :
    fetchWord s = fetchSdram s s.pc.toNat := by
  rw [fetchWord, if_neg (not_not.2 h4), regionOf_sdram.2 h]

/-- Settles O21: the fetch sees a candidate, and it completes where that candidate is known. -/
theorem fetchSeesAHeldValue : Obligations.FetchSeesAHeldValue := by
  intro s hpc
  obtain ⟨u, v, hv, hfetch⟩ := fetchSdram_sees s s.pc.toNat
  rw [List.mem_cons, mem_formerValues] at hv
  refine ⟨fun w t h => ?_, fun h4 hnow hbefore => ?_⟩
  · obtain ⟨h4, _⟩ := fetchWord_place h
    rw [fetchWord_sdram h4 hpc, hfetch] at h
    obtain ⟨rfl, _⟩ := fetched_eq_next h
    exact hv.imp_left Eq.symm
  · have hknown : v ≠ none := by
      rcases hv with rfl | ⟨r, hr, haddr, rfl⟩
      · exact hnow
      · exact hbefore r hr haddr
    obtain ⟨w, rfl⟩ := Option.ne_none_iff_exists'.1 hknown
    exact ⟨w, u, by rw [fetchWord_sdram h4 hpc, hfetch, fetched]⟩

/-! ## A word stored, then CCACHE -/

/-- Settles O22: CCACHE leaves no former value, and the current value is the word stored. -/
theorem ccacheMakesStoredCodeFetchable : Obligations.CcacheMakesStoredCodeFetchable := by
  intro s t u b a c target hwrite hsdram hccache htarget
  obtain rfl := Host.Outcome.next.inj ((exec_write_sdram b hsdram).symm.trans hwrite)
  obtain rfl := Host.Outcome.next.inj (hccache : execCcache _ = _)
  obtain ⟨h4, hreg⟩ := aligned_word_of_sdram (regionOf_sdram.2 hsdram)
  rw [fetchWord_sdram (by rw [State.setPc_pc, htarget, h4]) (by rw [State.setPc_pc, htarget]; exact regionOf_sdram.1 hreg),
    fetchSdram_coherent (by simp [formerValues]), State.setPc_pc, htarget]
  simp [loadWord_writeBytes, fetched]

end Sys2Proof.Machine
end

section
/-! The statements of 20_memory.md about single READs and WRITEs: alignment, the stops of each region, devices, the ROM and SDRAM. -/

namespace Sys2Proof.Machine

/-! ## The low address bits (20_memory.md R35) -/

/-- Addresses in one aligned unit of `n` bytes are forced to the same address. -/
theorem alignDown_effAddr_congr {s : State} {a : Reg} {c c' : Const16} {n : Nat} (h : addrOf s a c / n = addrOf s a c' / n) :
    alignDown (effAddr s a c) n = alignDown (effAddr s a c') n := by
  rw [alignDown_effAddr, alignDown_effAddr, h]

theorem memReadWord_congr (s : State) {ea ea' : Word} (h : alignDown ea 4 = alignDown ea' 4) :
    memReadWord s ea = memReadWord s ea' := by
  rw [memReadWord, memReadWord, h]

theorem memWriteWord_congr (s : State) (v : Word) {ea ea' : Word} (h : alignDown ea 4 = alignDown ea' 4) :
    memWriteWord s ea v = memWriteWord s ea' v := by
  rw [memWriteWord, memWriteWord, h]

theorem memReadHalf_congr (s : State) {ea ea' : Word} (h : alignDown ea 2 = alignDown ea' 2) :
    memReadHalf s ea = memReadHalf s ea' := by
  rw [memReadHalf, memReadHalf, h]

theorem memWriteHalf_congr (s : State) (v : BitVec 16) {ea ea' : Word} (h : alignDown ea 2 = alignDown ea' 2) :
    memWriteHalf s ea v = memWriteHalf s ea' v := by
  rw [memWriteHalf, memWriteHalf, h]

/-- Settles O36: the effective address reaches memory only through `alignDown`. -/
theorem lowAddressBitsAreIgnored : Obligations.LowAddressBitsAreIgnored := by
  intro s d b a c c'
  refine ⟨fun h => ?_, fun h => ?_⟩
  · have hea := alignDown_effAddr_congr h
    refine ⟨?_, congrArg afterStore (memWriteWord_congr s _ hea)⟩
    change execRead d a c s = execRead d a c' s
    rw [execRead, execRead, memReadWord_congr s hea]
  · have hea := alignDown_effAddr_congr h
    have hread := memReadHalf_congr s hea
    exact ⟨congrArg (loadInto d sext16 · s) hread, congrArg (loadInto d zext16 · s) hread,
      congrArg afterStore (memWriteHalf_congr s _ hea)⟩

/-! ## How a memory instruction stops -/

/-- The answer of an operation that stops, with a fault or with a refusal. -/
def stopped {α : Type} : Fault ⊕ Refusal → Res α
  | .inl e => .fault e
  | .inr e => .refused e

@[simp] theorem andThen_stopped {α β : Type} (e : Fault ⊕ Refusal) (f : α → Res β) : andThen (stopped e) f = stopped e := by
  cases e <;> rfl

section
variable {s : State} {a : Reg} {c : Const16} {e : Fault ⊕ Refusal}

theorem exec_read_stops (d : Reg) (h : memReadWord s (effAddr s a c) = stopped e) : exec (.read d a c) s = stopped e := by
  change execRead d a c s = _
  rw [execRead, h, andThen_stopped]

theorem exec_write_stops (b : Reg) (h : memWriteWord s (effAddr s a c) (readReg s b) = stopped e) :
    exec (.write b a c) s = stopped e := by
  change execWrite b a c s = _
  rw [execWrite, h, afterStore, andThen_stopped]

/-- READB and READBU stop as the byte read does. -/
theorem byteReads_stop (d : Reg) (h : memReadByte s (effAddr s a c) = stopped e) :
    exec (.readb d a c) s = stopped e ∧ exec (.readbu d a c) s = stopped e := by
  change execReadb d a c s = _ ∧ execReadbu d a c s = _
  simp [execReadb, execReadbu, h, loadInto]

/-- READH and READHU stop as the halfword read does. -/
theorem halfReads_stop (d : Reg) (h : memReadHalf s (effAddr s a c) = stopped e) :
    exec (.readh d a c) s = stopped e ∧ exec (.readhu d a c) s = stopped e := by
  change execReadh d a c s = _ ∧ execReadhu d a c s = _
  simp [execReadh, execReadhu, h, loadInto]

/-- The four sub-word READs stop where the region of the address, aligned to either width, does not take them. -/
theorem subWordReads_stop (d : Reg)
    (h : ∀ n, n = 1 ∨ n = 2 ∨ n = 4 → ∀ {α : Type} (v : Option α), subWordLoad (addrOf s a c / n * n) v = stopped e) :
    exec (.readb d a c) s = stopped e ∧ exec (.readbu d a c) s = stopped e ∧
    exec (.readh d a c) s = stopped e ∧ exec (.readhu d a c) s = stopped e := by
  obtain ⟨hb, hbu⟩ := byteReads_stop d (by rw [memReadByte, alignDown_effAddr, h 1 (by simp)])
  obtain ⟨hh, hhu⟩ := halfReads_stop d (by rw [memReadHalf, alignDown_effAddr, h 2 (by simp)])
  exact ⟨hb, hbu, hh, hhu⟩

/-- The two sub-word WRITEs stop where the region of the address, aligned to either width, does not take them. -/
theorem subWordWrites_stop (b : Reg)
    (h : ∀ n, n = 1 ∨ n = 2 ∨ n = 4 → ∀ bs, subWordStore s (addrOf s a c / n * n) bs = stopped e) :
    exec (.writeb b a c) s = stopped e ∧ exec (.writeh b a c) s = stopped e := by
  change execWriteb b a c s = _ ∧ execWriteh b a c s = _
  rw [execWriteb, execWriteh, memWriteByte, memWriteHalf, alignDown_effAddr, alignDown_effAddr, h 1 (by simp), h 2 (by simp)]
  exact ⟨andThen_stopped e _, andThen_stopped e _⟩

end

/-! ## The regions that take no sub-word access (20_memory.md R42 to R45) -/

section
variable {α : Type} {x : Nat} (v : Option α) (s : State) (bs : List Byte)

theorem subWordLoad_unmapped (h : regionOf x = .unmapped) : subWordLoad x v = stopped (.inl .unmappedAddress) := by
  simp only [subWordLoad, h, stopped]

theorem subWordStore_unmapped (h : regionOf x = .unmapped) : subWordStore s x bs = stopped (.inl .unmappedAddress) := by
  rw [subWordStore, h, stopped]

theorem subWordLoad_rom (h : regionOf x = .rom) : subWordLoad x v = stopped (.inr .subWordOutsideSdram) := by
  simp only [subWordLoad, h, stopped]

theorem subWordStore_rom (h : regionOf x = .rom) : subWordStore s x bs = stopped (.inr .writeToRom) := by
  rw [subWordStore, h, stopped]

theorem subWordLoad_device (h : regionOf x = .io ∨ regionOf x = .vram32 ∨ regionOf x = .vram8 ∨ regionOf x = .vramPixel) :
    subWordLoad x v = stopped (.inr .subWordOutsideSdram) := by
  rcases h with h | h | h | h <;> simp only [subWordLoad, h, stopped]

theorem subWordStore_device (h : regionOf x = .io ∨ regionOf x = .vram32 ∨ regionOf x = .vram8 ∨ regionOf x = .vramPixel) :
    subWordStore s x bs = stopped (.inr .subWordOutsideSdram) := by
  rcases h with h | h | h | h <;> rw [subWordStore, h, stopped]

theorem subWordLoad_internal (h : regionOf x = .internal) : subWordLoad x v = stopped (.inr .subWordInternalIo) := by
  simp only [subWordLoad, h, stopped]

theorem subWordStore_internal (h : regionOf x = .internal) : subWordStore s x bs = stopped (.inr .subWordInternalIo) := by
  rw [subWordStore, h, stopped]

end

/-- Settles O37: alignment does not leave an unmapped range, and no access is taken there. -/
theorem unmappedAccessesStop : Obligations.UnmappedAccessesStop := by
  intro s d b a c h
  have hword : regionOf (alignDown (effAddr s a c) 4) = .unmapped := by
    rw [alignDown_effAddr]
    exact regionOf_of_isUnmapped (by simp) h
  have hread : exec (.read d a c) s = stopped (.inl .unmappedAddress) :=
    exec_read_stops d (by rw [memReadWord, hword, stopped])
  have hwrite : exec (.write b a c) s = stopped (.inl .unmappedAddress) :=
    exec_write_stops b (by rw [memWriteWord, hword, stopped])
  obtain ⟨hb, hbu, hh, hhu⟩ := subWordReads_stop d fun _ hn _ v => subWordLoad_unmapped v (regionOf_of_isUnmapped hn h)
  obtain ⟨hwb, hwh⟩ := subWordWrites_stop b fun _ hn bs => subWordStore_unmapped s bs (regionOf_of_isUnmapped hn h)
  exact ⟨hread, hb, hbu, hh, hhu, hwrite, hwb, hwh⟩

/-- Settles O38, region by region. -/
theorem romWritesAndSubWordAccessesAreRefused : Obligations.RomWritesAndSubWordAccessesAreRefused := by
  intro s d b a c
  refine ⟨fun h => ⟨?_, ?_⟩, fun h => ?_, fun h => ?_, fun h => ?_⟩
  · have hword : memWriteWord s (effAddr s a c) (readReg s b) = stopped (.inr .writeToRom) := by
      rw [memWriteWord, alignDown_effAddr, regionOf_of_inRom (by simp) h, stopped]
    exact exec_write_stops b hword
  · exact subWordWrites_stop b fun _ hn bs => subWordStore_rom s bs (regionOf_of_inRom hn h)
  · rcases h with hrom | hdev
    · exact subWordReads_stop d fun _ hn _ v => subWordLoad_rom v (regionOf_of_inRom hn hrom)
    · exact subWordReads_stop d fun _ hn _ v => subWordLoad_device v (regionOf_of_inDevice hn hdev)
  · exact subWordWrites_stop b fun _ hn bs => subWordStore_device s bs (regionOf_of_inDevice hn h)
  · obtain ⟨hb, hbu, hh, hhu⟩ := subWordReads_stop d fun _ hn _ v => subWordLoad_internal v (regionOf_of_inInternal hn h)
    obtain ⟨hwb, hwh⟩ := subWordWrites_stop b fun _ hn bs => subWordStore_internal s bs (regionOf_of_inInternal hn h)
    exact ⟨hb, hbu, hh, hhu, hwb, hwh⟩

/-! ## Device regions (20_memory.md R43, R49, R55) -/

/-- Settles O35. The frames are those of a result and of going on, from the state in which the access is recorded; that state is `s` in
every field but the record. -/
theorem deviceAccessesHappenOnceInOrder : Obligations.DeviceAccessesHappenOnceInOrder := by
  intro s d b a c h
  have hread := regResult_advance_writeReg (deviceLoad s (addrOf s a c / 4 * 4)).2 d
    (Config.deviceRead s.deviceLog (addrOf s a c / 4 * 4))
  have hwrite := goesOn_advance (deviceStore s (addrOf s a c / 4 * 4) (readReg s b))
  exact ⟨⟨_, exec_read_device d h, hread.devices, hread.regs, hread.pc, hread.fregs, hread.stack, hread.interrupts, hread.fetch,
      hread.memory⟩,
    ⟨_, exec_write_device b h, hwrite.devices, hwrite.pc, hwrite.regs, hwrite.fregs, hwrite.stack, hwrite.interrupts, hwrite.fetch,
      hwrite.memory⟩⟩

/-! ## The boot ROM (20_memory.md R42) -/

/-- A byte that the launch does not give is the free one (log entry 4). -/
theorem romByte_of_rom_nil {s : State} (h : s.rom = []) (x : Nat) : romByte s x = Config.romImage (BitVec.ofNat 12 x) := by
  rw [romByte, h, Memory.read, Option.getD_none]

/-- Settles O60: the four bytes of an aligned word of the ROM lie in the ROM, and `romWord` joins them. -/
theorem romReadsGiveTheImage : Obligations.RomReadsGiveTheImage := by
  intro s d a c h
  have hbyte : ∀ k, k < 4 → readByte s (addrOf s a c / 4 * 4 + k) = some (romByte s (addrOf s a c / 4 * 4 + k)) := fun k hk =>
    readByte_rom s (word_stays_in_rom (Nat.mul_mod_left _ _) (regionOf_of_inRom (by simp) h) (by omega) (by omega))
  refine ⟨_, _, _, _, hbyte 0 (by decide), hbyte 1 (by decide), hbyte 2 (by decide), hbyte 3 (by decide), fun hnil k hk => ?_,
    _, exec_read_rom d h, regResult_advance_writeReg s d _⟩
  rw [hbyte k hk, romByte_of_rom_nil hnil]

/-! ## READs of SDRAM (20_memory.md R37) -/

/-- The bytes of the aligned unit that holds an address of SDRAM are in SDRAM (20_memory.md R46). -/
theorem regionOf_aligned_add {x n k : Nat} (hn : n = 1 ∨ n = 2 ∨ n = 4) (hk : k < n) (h : InSdram x) :
    regionOf (x / n * n + k) = .sdram := by
  unfold InSdram at h
  rw [regionOf_sdram]
  rcases hn with rfl | rfl | rfl <;> omega

theorem subWordLoad_none {α : Type} {x : Nat} (h : regionOf x = .sdram) :
    subWordLoad x (none : Option α) = stopped (.inl .unwrittenMemory) := by
  simp only [subWordLoad, h, stopped]

theorem subWordLoad_some {α : Type} {x : Nat} (v : α) (h : regionOf x = .sdram) : subWordLoad x (some v) = .next v := by
  simp only [subWordLoad, h]

theorem loadWord_eq_none {m : Memory} {x k : Nat} (hk : k < 4) (h : Memory.read m (x + k) = none) : loadWord m x = none := by
  refine Option.eq_none_iff_forall_ne_some.2 fun v hv => ?_
  obtain ⟨b0, b1, b2, b3, h0, h1, h2, h3, _⟩ := loadWord_eq_some.1 hv
  interval_cases k <;> simp_all

theorem loadHalf_eq_none {m : Memory} {x k : Nat} (hk : k < 2) (h : Memory.read m (x + k) = none) : loadHalf m x = none := by
  refine Option.eq_none_iff_forall_ne_some.2 fun v hv => ?_
  obtain ⟨b0, b1, h0, h1, _⟩ := loadHalf_eq_some.1 hv
  interval_cases k <;> simp_all

section
variable {s : State} {a : Reg} {c : Const16}

theorem memReadWord_unwritten (h : InSdram (addrOf s a c)) (hnone : loadWord s.mem (addrOf s a c / 4 * 4) = none) :
    memReadWord s (effAddr s a c) = stopped (.inl .unwrittenMemory) := by
  simp only [memReadWord, alignDown_effAddr, regionOf_of_inSdram h, hnone, stopped]

theorem memReadHalf_sdram {b0 b1 : Byte} (h : InSdram (addrOf s a c)) (h0 : readByte s (addrOf s a c / 2 * 2) = some b0)
    (h1 : readByte s (addrOf s a c / 2 * 2 + 1) = some b1) : memReadHalf s (effAddr s a c) = .next (halfOfBytes b0 b1) := by
  rw [readByte_sdram s (regionOf_of_inSdram h)] at h0
  rw [readByte_sdram s (regionOf_aligned_add (by simp) (by simp) h)] at h1
  rw [memReadHalf, alignDown_effAddr, loadHalf_eq_some.2 ⟨b0, b1, h0, h1, rfl⟩, subWordLoad_some _ (regionOf_of_inSdram h)]

theorem memReadByte_sdram (h : InSdram (addrOf s a c)) :
    memReadByte s (effAddr s a c) = subWordLoad (addrOf s a c) (readByte s (addrOf s a c)) := by
  rw [memReadByte, alignDown_effAddr, Nat.div_one, Nat.mul_one, readByte_sdram s (regionOf_sdram.2 h)]

end

/-- Settles O39, width by width. -/
theorem readsOfUnwrittenMemoryStop : Obligations.ReadsOfUnwrittenMemoryStop := by
  intro s d a c
  refine ⟨fun h ⟨k, hk, hnone⟩ => ?_, fun h ⟨k, hk, hnone⟩ => ?_, fun h hnone => ?_⟩
  · rw [readByte_sdram s (regionOf_aligned_add (by simp) hk h)] at hnone
    exact exec_read_stops d (memReadWord_unwritten h (loadWord_eq_none hk hnone))
  · rw [readByte_sdram s (regionOf_aligned_add (by simp) hk h)] at hnone
    have hread : memReadHalf s (effAddr s a c) = stopped (.inl .unwrittenMemory) := by
      rw [memReadHalf, alignDown_effAddr, loadHalf_eq_none hk hnone, subWordLoad_none (regionOf_of_inSdram h)]
    exact halfReads_stop d hread
  · have hread : memReadByte s (effAddr s a c) = stopped (.inl .unwrittenMemory) := by
      rw [memReadByte_sdram h, hnone, subWordLoad_none (regionOf_sdram.2 h)]
    exact byteReads_stop d hread

/-! ## Bytes and halves of a stored word (20_memory.md R34, R40) -/

theorem getElem_bytesOfWord (v : Word) {k : Nat} (hk : k < (bytesOfWord v).length) :
    (bytesOfWord v)[k] = v.extractLsb' (8 * k) 8 := by
  rw [bytesOfWord_length] at hk
  interval_cases k <;> rfl

/-- Two adjacent bytes of a word are the half there (decision D1). -/
theorem halfOfBytes_extractLsb' (v : Word) (i : Nat) :
    halfOfBytes (v.extractLsb' i 8) (v.extractLsb' (i + 8) 8) = v.extractLsb' i 16 :=
  BitVec.extractLsb'_append_extractLsb'_eq_extractLsb' rfl

/-- A bit slice, zero-extended, as a number. -/
theorem setWidth_extractLsb'_eq_ofNat (v : Word) (i n : Nat) :
    (v.extractLsb' i n).setWidth 32 = BitVec.ofNat 32 (v.toNat / 2 ^ i % 2 ^ n) := by
  rw [← BitVec.ofNat_toNat, BitVec.extractLsb'_toNat, Nat.shiftRight_eq_div_pow]

/-- Each byte of an SDRAM word after the word is stored. -/
theorem readByte_stored_word (s : State) {x k : Nat} (v : Word) (h : InSdram x) (hk : k < 4) :
    readByte (advance (storeSdram s (x / 4 * 4) (bytesOfWord v))) (x / 4 * 4 + k) = some (v.extractLsb' (8 * k) 8) := by
  have hstore := storeResult_advance_storeSdram s (x / 4 * 4) (bytesOfWord v) fun j hj => regionOf_aligned_add (by simp) hj h
  exact (hstore.stored k hk).trans (congrArg some (getElem_bytesOfWord v hk))

/-- The two bytes of each half of an SDRAM word after the word is stored. -/
theorem readByte_stored_half (s : State) {x k : Nat} (v : Word) (h : InSdram x) (hk : k < 2) :
    readByte (advance (storeSdram s (x / 4 * 4) (bytesOfWord v))) (x / 4 * 4 + 2 * k) = some (v.extractLsb' (16 * k) 8) ∧
    readByte (advance (storeSdram s (x / 4 * 4) (bytesOfWord v))) (x / 4 * 4 + 2 * k + 1) =
      some (v.extractLsb' (16 * k + 8) 8) := by
  have h0 := readByte_stored_word s v h (k := 2 * k) (by omega)
  have h1 := readByte_stored_word s v h (k := 2 * k + 1) (by omega)
  rw [show 8 * (2 * k) = 16 * k by omega] at h0
  rw [show 8 * (2 * k + 1) = 16 * k + 8 by omega] at h1
  exact ⟨h0, h1⟩

/-- READBU of a byte of SDRAM (41_memory_access.md R123). -/
theorem exec_readbu_sdram {s : State} {a : Reg} {c : Const16} {v : Byte} (d : Reg) (h : InSdram (addrOf s a c))
    (hv : readByte s (addrOf s a c) = some v) : exec (.readbu d a c) s = .next (advance (writeReg s d (zext8 v))) := by
  change execReadbu d a c s = _
  rw [execReadbu, memReadByte_sdram h, hv, subWordLoad_some _ (regionOf_sdram.2 h), loadInto, andThen_ok]

/-- READHU of a halfword of SDRAM (41_memory_access.md R125). -/
theorem exec_readhu_sdram {s : State} {a : Reg} {c : Const16} {b0 b1 : Byte} (d : Reg) (h : InSdram (addrOf s a c))
    (h0 : readByte s (addrOf s a c / 2 * 2) = some b0) (h1 : readByte s (addrOf s a c / 2 * 2 + 1) = some b1) :
    exec (.readhu d a c) s = .next (advance (writeReg s d (zext16 (halfOfBytes b0 b1)))) := by
  change execReadhu d a c s = _
  rw [execReadhu, memReadHalf_sdram h h0 h1, loadInto, andThen_ok]

/-- Settles O40: each byte of the word holds its slice of the register, and two of them make a half. -/
theorem mixedWidthReadsAfterAWrite : Obligations.MixedWidthReadsAfterAWrite := by
  intro s t b a c hsdram hwrite d e c' k
  obtain rfl := Host.Outcome.next.inj ((exec_write_sdram b hsdram).symm.trans hwrite)
  refine ⟨fun hk haddr => ?_, fun hk haddr => ?_⟩
  · have hin : InSdram (addrOf s a c / 4 * 4 + k) := regionOf_sdram.1 (regionOf_aligned_add (by simp) hk hsdram)
    have hbyte := readByte_stored_word s (readReg s b) hsdram hk
    refine ⟨_, exec_readbu_sdram d (haddr ▸ hin) (haddr ▸ hbyte), ?_⟩
    rw [zext8, setWidth_extractLsb'_eq_ofNat]
    exact regResult_advance_writeReg _ d _
  · have hin : InSdram (addrOf s a c / 4 * 4 + 2 * k) :=
      regionOf_sdram.1 (regionOf_aligned_add (by simp) (by omega) hsdram)
    have heven : (addrOf s a c / 4 * 4 + 2 * k) / 2 * 2 = addrOf s a c / 4 * 4 + 2 * k := by omega
    obtain ⟨hlow, hhigh⟩ := readByte_stored_half s (readReg s b) hsdram hk
    rw [← heven, ← haddr] at hlow hhigh
    refine ⟨_, exec_readhu_sdram d (haddr ▸ hin) hlow hhigh, ?_⟩
    rw [zext16, halfOfBytes_extractLsb', setWidth_extractLsb'_eq_ofNat]
    exact regResult_advance_writeReg _ d _

end Sys2Proof.Machine
end

section
/-! The decoder said once: which sub-decoder each primary opcode calls (30_encoding.md R61), and its fields as numbers. -/

namespace Sys2Proof.Machine

/-! ## Fields as numbers -/

theorem field_primary (w : Word) : field w 31 28 = w.toNat / 2 ^ 28 := by
  have := w.isLt
  simp only [field]
  omega

theorem field_aluOpcode (w : Word) : field w 27 24 = w.toNat / 2 ^ 24 % 16 := rfl

theorem field_lowNibble (w : Word) : field w 3 0 = w.toNat % 16 := by simp [field]

theorem field_lowBit (w : Word) : field w 0 0 = w.toNat % 2 := by simp [field]

theorem regField_eq (w : Word) (lo : Nat) : regField w lo = BitVec.ofNat 4 (w.toNat / 2 ^ lo) :=
  BitVec.eq_of_toNat_eq (by simp [regField, field])

theorem regField_zero (w : Word) : regField w 0 = BitVec.ofNat 4 w.toNat := by
  rw [regField_eq, Nat.pow_zero, Nat.div_one]

theorem const16Field_eq (w : Word) (lo : Nat) : const16Field w lo = BitVec.ofNat 16 (w.toNat / 2 ^ lo) :=
  BitVec.eq_of_toNat_eq (by simp [const16Field, field])

theorem fregField_eq (w : Word) (lo : Nat) : fregField w lo = BitVec.ofNat 4 (w.toNat / 2 ^ lo % 8) := by
  simp [fregField, field]

/-- The fourth bit of the field is ignored, so the register named is one of the eight (30_encoding.md R79). -/
theorem canonical_fregField (w : Word) (lo : Nat) : (fregField w lo).canonical = true := by
  rw [fregField_eq, FReg.canonical, BitVec.toNat_ofNat]
  exact decide_eq_true (by omega)

/-! ## The sub-decoder of each primary opcode -/

section
variable {w : Word}

theorem decodeWord_of_halt (h : field w 31 28 = 15) : decodeWord w = decodeHalt w := by simp only [decodeWord, h]

theorem decodeWord_of_read (h : field w 31 28 = 14) : decodeWord w = decodeRead w := by simp only [decodeWord, h]

theorem decodeWord_of_write (h : field w 31 28 = 13) : decodeWord w = decodeWrite w := by simp only [decodeWord, h]

theorem decodeWord_of_intid (h : field w 31 28 = 12) : decodeWord w = .ok (.intid (regField w 0)) := by
  simp only [decodeWord, h]

theorem decodeWord_of_push (h : field w 31 28 = 11) : decodeWord w = .ok (.push (regField w 4)) := by
  simp only [decodeWord, h]

theorem decodeWord_of_pop (h : field w 31 28 = 10) : decodeWord w = .ok (.pop (regField w 0)) := by
  simp only [decodeWord, h]

theorem decodeWord_of_jump (h : field w 31 28 = 9) : decodeWord w = .ok (decodeJump w) := by simp only [decodeWord, h]

theorem decodeWord_of_jumpr (h : field w 31 28 = 8) : decodeWord w = .ok (decodeJumpr w) := by simp only [decodeWord, h]

theorem decodeWord_of_ccache (h : field w 31 28 = 7) : decodeWord w = .ok .ccache := by simp only [decodeWord, h]

theorem decodeWord_of_branch (h : field w 31 28 = 6) : decodeWord w = decodeBranch w := by simp only [decodeWord, h]

theorem decodeWord_of_savpc (h : field w 31 28 = 5) : decodeWord w = .ok (.savpc (regField w 0)) := by
  simp only [decodeWord, h]

theorem decodeWord_of_reti (h : field w 31 28 = 4) : decodeWord w = .ok .reti := by simp only [decodeWord, h]

theorem decodeWord_of_arithmc (h : field w 31 28 = 3) : decodeWord w = decodeArithmc w := by simp only [decodeWord, h]

theorem decodeWord_of_arithm (h : field w 31 28 = 2) : decodeWord w = .ok (decodeArithm w) := by simp only [decodeWord, h]

theorem decodeWord_of_arithc (h : field w 31 28 = 1) : decodeWord w = decodeArithc w := by simp only [decodeWord, h]

theorem decodeWord_of_arith (h : field w 31 28 = 0) : decodeWord w = decodeArith w := by simp only [decodeWord, h]

end

end Sys2Proof.Machine
end

section
/-! The round trip (30_encoding.md R60 to R80): the decoder's choice of an instruction looks at the opcode fields alone, and the packed
words hold the operands where the decoder reads them. One lemma per format, then one case of the theorem per format. -/

namespace Sys2Proof.Machine

/-! ## The packed words of each format decode -/

section
variable {n : Nat} {a b d : Reg} {c : Const16}

/-- READ words (30_encoding.md R63). -/
theorem decodeWord_readWord {mk : Reg → Reg → Const16 → Instr} (hn : n < 16)
    (h : ∀ w, field w 7 4 = n → decodeRead w = .ok (mk (regField w 0) (regField w 8) (const16Field w 12))) :
    decodeWord (packConstHigh 14 c a.toNat n d.toNat) = .ok (mk d a c) := by
  obtain ⟨hop, hsub, hd, -, ha, hc⟩ := packConstHigh_fields 14 c a.toNat n d.toNat (by decide) a.isLt hn d.isLt
  rw [decodeWord_of_read hop, h _ hsub, regField_of hd, regField_of ha, const16Field_of hc]

/-- WRITE words (30_encoding.md R64). -/
theorem decodeWord_writeWord {mk : Reg → Reg → Const16 → Instr} (hn : n < 16)
    (h : ∀ w, field w 3 0 = n → decodeWrite w = .ok (mk (regField w 4) (regField w 8) (const16Field w 12))) :
    decodeWord (packConstHigh 13 c a.toNat b.toNat n) = .ok (mk b a c) := by
  obtain ⟨hop, hb, hsub, -, ha, hc⟩ := packConstHigh_fields 13 c a.toNat b.toNat n (by decide) a.isLt b.isLt hn
  rw [decodeWord_of_write hop, h _ hsub, regField_of hb, regField_of ha, const16Field_of hc]

/-- JUMP words (30_encoding.md R67). -/
theorem decodeWord_jumpWord {mk : Const27 → Instr} {c : Const27} (hn : n < 2)
    (h : ∀ w, field w 0 0 = n → decodeJump w = mk (const27Field w)) : decodeWord (packJump c n) = .ok (mk c) := by
  obtain ⟨hop, hsub, hc⟩ := packJump_fields c n hn
  rw [decodeWord_of_jump hop, h _ hsub, const27Field_of hc]

/-- JUMPR words (30_encoding.md R68). -/
theorem decodeWord_jumprWord {mk : Reg → Const16 → Instr} (hn : n < 2)
    (h : ∀ w, field w 0 0 = n → decodeJumpr w = mk (regField w 4) (const16Field w 12)) :
    decodeWord (packConstHigh 8 c 0 b.toNat n) = .ok (mk b c) := by
  obtain ⟨hop, hb, -, hsub, -, hc⟩ := packConstHigh_fields 8 c 0 b.toNat n (by decide) (by decide) b.isLt (by omega)
  rw [decodeWord_of_jumpr hop, h _ (hsub.trans (Nat.mod_eq_of_lt hn)), regField_of hb, const16Field_of hc]

/-- BRANCH words (30_encoding.md R69). -/
theorem decodeWord_branchWord {mk : Reg → Reg → Const16 → Instr} (hn : n < 16)
    (h : ∀ w, field w 3 0 = n → decodeBranch w = .ok (mk (regField w 8) (regField w 4) (const16Field w 12))) :
    decodeWord (packConstHigh 6 c a.toNat b.toNat n) = .ok (mk a b c) := by
  obtain ⟨hop, hb, hsub, -, ha, hc⟩ := packConstHigh_fields 6 c a.toNat b.toNat n (by decide) a.isLt b.isLt hn
  rw [decodeWord_of_branch hop, h _ hsub, regField_of hb, regField_of ha, const16Field_of hc]

/-- ARITH words (30_encoding.md R71). -/
theorem decodeWord_arithWord {mk : Reg → Reg → Reg → Instr} (hn : n < 16)
    (h : ∀ w, field w 27 24 = n → decodeArith w = .ok (mk (regField w 0) (regField w 8) (regField w 4))) :
    decodeWord (packRegForm 0 n a.toNat b.toNat d.toNat) = .ok (mk d a b) := by
  obtain ⟨hop, haop, ha, hb, hd, -⟩ := packRegForm_fields 0 n a.toNat b.toNat d.toNat (by decide) hn a.isLt b.isLt d.isLt
  rw [decodeWord_of_arith hop, h _ haop, regField_of hd, regField_of ha, regField_of hb]

/-- ARITHC words (30_encoding.md R71). -/
theorem decodeWord_arithcWord {mk : Reg → Reg → Const16 → Instr} (hn : n < 16)
    (h : ∀ w, field w 27 24 = n → decodeArithc w = .ok (mk (regField w 0) (regField w 4) (const16Field w 8))) :
    decodeWord (packConstForm 1 n d a c) = .ok (mk d a c) := by
  obtain ⟨hop, haop, hc, ha, hd⟩ := packConstForm_fields 1 n d a c (by decide) hn
  rw [decodeWord_of_arithc hop, h _ haop, regField_of hd, regField_of ha, const16Field_of hc]

/-- ARITHMC words (30_encoding.md R71). -/
theorem decodeWord_arithmcWord {mk : Reg → Reg → Const16 → Instr} (hn : n < 16)
    (h : ∀ w, field w 27 24 = n → decodeArithmc w = .ok (mk (regField w 0) (regField w 4) (const16Field w 8))) :
    decodeWord (packConstForm 3 n d a c) = .ok (mk d a c) := by
  obtain ⟨hop, haop, hc, ha, hd⟩ := packConstForm_fields 3 n d a c (by decide) hn
  rw [decodeWord_of_arithmc hop, h _ haop, regField_of hd, regField_of ha, const16Field_of hc]

/-- ARITHM words with three general registers (30_encoding.md R71). -/
theorem decodeWord_arithmWord {mk : Reg → Reg → Reg → Instr} (hn : n < 16)
    (h : ∀ w, field w 27 24 = n → decodeArithm w = mk (regField w 0) (regField w 8) (regField w 4)) :
    decodeWord (packRegForm 2 n a.toNat b.toNat d.toNat) = .ok (mk d a b) := by
  obtain ⟨hop, haop, ha, hb, hd, -⟩ := packRegForm_fields 2 n a.toNat b.toNat d.toNat (by decide) hn a.isLt b.isLt d.isLt
  rw [decodeWord_of_arithm hop, h _ haop, regField_of hd, regField_of ha, regField_of hb]

/-! ## The FP64 fields keep a canonical register (30_encoding.md R79) -/

theorem toNat_mod_eight {f : FReg} (h : f.canonical = true) : f.toNat % 8 = f.toNat :=
  Nat.mod_eq_of_lt (of_decide_eq_true h)

/-- FMUL, FADD and FSUB words. -/
theorem decodeWord_fp64Word {mk : FReg → FReg → FReg → Instr} {fd fa fb : FReg} (hn : n < 16) (hfd : fd.canonical = true)
    (hfa : fa.canonical = true) (hfb : fb.canonical = true)
    (h : ∀ w, field w 27 24 = n → decodeArithm w = mk (fregField w 0) (fregField w 8) (fregField w 4)) :
    decodeWord (packRegForm 2 n fa.toNat fb.toNat fd.toNat) = .ok (mk fd fa fb) := by
  obtain ⟨hop, haop, -, -, -, ha, hb, hd⟩ :=
    packRegForm_fields 2 n fa.toNat fb.toNat fd.toNat (by decide) hn fa.isLt fb.isLt fd.isLt
  rw [decodeWord_of_arithm hop, h _ haop, fregField_of (hd.trans (toNat_mod_eight hfd)),
    fregField_of (ha.trans (toNat_mod_eight hfa)), fregField_of (hb.trans (toNat_mod_eight hfb))]

/-- FLD words. -/
theorem decodeWord_fldWord {fd : FReg} (hfd : fd.canonical = true) :
    decodeWord (packRegForm 2 11 a.toNat b.toNat fd.toNat) = .ok (.fld fd a b) := by
  obtain ⟨hop, haop, ha, hb, -, -, -, hd⟩ :=
    packRegForm_fields 2 11 a.toNat b.toNat fd.toNat (by decide) (by decide) a.isLt b.isLt fd.isLt
  simp only [decodeWord_of_arithm hop, decodeArithm, haop, fregField_of (hd.trans (toNat_mod_eight hfd)), regField_of ha,
    regField_of hb]

/-- FSTHI and FSTLO words. -/
theorem decodeWord_fstWord {mk : Reg → FReg → Instr} {fa : FReg} (hn : n < 16) (hfa : fa.canonical = true)
    (h : ∀ w, field w 27 24 = n → decodeArithm w = mk (regField w 0) (fregField w 8)) :
    decodeWord (packRegForm 2 n fa.toNat 0 d.toNat) = .ok (mk d fa) := by
  obtain ⟨hop, haop, -, -, hd, ha, -⟩ := packRegForm_fields 2 n fa.toNat 0 d.toNat (by decide) hn fa.isLt (by decide) d.isLt
  rw [decodeWord_of_arithm hop, h _ haop, regField_of hd, fregField_of (ha.trans (toNat_mod_eight hfa))]

end

/-! ## The formats with one register or none (30_encoding.md R65, R66, R70) -/

theorem decodeWord_intidWord (d : Reg) : decodeWord (packRegForm 12 0 0 0 d.toNat) = .ok (.intid d) := by
  obtain ⟨hop, -, -, -, hd, -⟩ := packRegForm_fields 12 0 0 0 d.toNat (by decide) (by decide) (by decide) (by decide) d.isLt
  rw [decodeWord_of_intid hop, regField_of hd]

theorem decodeWord_pushWord (b : Reg) : decodeWord (packRegForm 11 0 0 b.toNat 0) = .ok (.push b) := by
  obtain ⟨hop, -, -, hb, -⟩ := packRegForm_fields 11 0 0 b.toNat 0 (by decide) (by decide) (by decide) b.isLt (by decide)
  rw [decodeWord_of_push hop, regField_of hb]

theorem decodeWord_popWord (d : Reg) : decodeWord (packRegForm 10 0 0 0 d.toNat) = .ok (.pop d) := by
  obtain ⟨hop, -, -, -, hd, -⟩ := packRegForm_fields 10 0 0 0 d.toNat (by decide) (by decide) (by decide) (by decide) d.isLt
  rw [decodeWord_of_pop hop, regField_of hd]

theorem decodeWord_savpcWord (d : Reg) : decodeWord (packRegForm 5 0 0 0 d.toNat) = .ok (.savpc d) := by
  obtain ⟨hop, -, -, -, hd, -⟩ := packRegForm_fields 5 0 0 0 d.toNat (by decide) (by decide) (by decide) (by decide) d.isLt
  rw [decodeWord_of_savpc hop, regField_of hd]

/-! ## Every instruction -/

/-- The word of a well-formed instruction decodes to it: the sub-opcode packed is the one under which the format's decoder answers the
instruction. -/
theorem decodeWord_encodeWord (i : Instr) (hwf : i.wellFormed = true) : decodeWord (encodeWord i) = .ok i := by
  cases i
  case halt | ccache | reti => decide
  case intid d => exact decodeWord_intidWord d
  case push b => exact decodeWord_pushWord b
  case pop d => exact decodeWord_popWord d
  case savpc d => exact decodeWord_savpcWord d
  case read | readb | readbu | readh | readhu =>
    exact decodeWord_readWord (by decide) fun w hsub => by simp only [decodeRead, hsub]
  case write | writeb | writeh => exact decodeWord_writeWord (by decide) fun w hsub => by simp only [decodeWrite, hsub]
  case jump | jumpo => exact decodeWord_jumpWord (by decide) fun w hsub => by simp [decodeJump, hsub]
  case jumpr | jumpro => exact decodeWord_jumprWord (by decide) fun w hsub => by simp [decodeJumpr, hsub]
  case beq | bne | bgt | bge | blt | ble | bgts | bges | blts | bles =>
    exact decodeWord_branchWord (by decide) fun w hsub => by simp only [decodeBranch, hsub]
  case or | and | xor | add | sub | shiftl | shiftr | not | slt | sltu | load | loadhi | shiftrs =>
    exact decodeWord_arithWord (by decide) fun w haop => by simp only [decodeArith, haop]
  case orC | andC | xorC | addC | subC | shiftlC | shiftrC | notC | sltC | sltuC | loadC | loadhiC | shiftrsC =>
    exact decodeWord_arithcWord (by decide) fun w haop => by simp only [decodeArithc, haop]
  case mults | multu | multfp | divs | divu | divfp | mods | modu | mulshi | multuhi =>
    exact decodeWord_arithmWord (by decide) fun w haop => by simp only [decodeArithm, haop]
  case multsC | multuC | multfpC | divsC | divuC | divfpC | modsC | moduC | mulshiC | multuhiC =>
    exact decodeWord_arithmcWord (by decide) fun w haop => by simp only [decodeArithmc, haop]
  case fmul fd fa fb | fadd fd fa fb | fsub fd fa fb =>
    obtain ⟨⟨hfd, hfa⟩, hfb⟩ : (fd.canonical = true ∧ fa.canonical = true) ∧ fb.canonical = true := by
      simpa [Instr.wellFormed] using hwf
    exact decodeWord_fp64Word (by decide) hfd hfa hfb fun w haop => by simp only [decodeArithm, haop]
  case fld fd a b => exact decodeWord_fldWord hwf
  case fsthi d fa | fstlo d fa =>
    exact decodeWord_fstWord (by decide) hwf fun w haop => by simp only [decodeArithm, haop]

/-- Settles O2: the bytes of a word decode as the word does. -/
theorem decodeOfEncodeIsIdentity : Obligations.DecodeOfEncodeIsIdentity := fun i hwf =>
  decode_bytesOfWord (decodeWord_encodeWord i hwf)

end Sys2Proof.Machine
end

section
/-! Don't-care bits (30_encoding.md R80, decision D5, log entry 15): the decoder looks at the opcodes and the operand fields alone. -/

namespace Sys2Proof.Machine

/-- Both forms of a single-cycle operation (30_encoding.md R71, R77). -/
theorem aluWords_of_arith {r : Reg → Reg → Reg → Instr} {k : Reg → Reg → Const16 → Instr} {aop : Nat}
    (hr : ∀ w, field w 27 24 = aop → decodeArith w = .ok (r (regField w 0) (regField w 8) (regField w 4)))
    (hk : ∀ w, field w 27 24 = aop → decodeArithc w = .ok (k (regField w 0) (regField w 4) (const16Field w 8))) :
    AluWords r k 0 aop := by
  refine fun w haop => ⟨fun hop => ?_, fun hop => ?_⟩
  · rw [decodeWord_of_arith ((field_primary w).trans hop), hr w haop, regField_zero, regField_eq, regField_eq]
  · rw [decodeWord_of_arithc ((field_primary w).trans hop), hk w haop, regField_zero, regField_eq, const16Field_eq]

/-- Both forms of a multi-cycle operation (30_encoding.md R71, R78). -/
theorem aluWords_of_arithm {r : Reg → Reg → Reg → Instr} {k : Reg → Reg → Const16 → Instr} {aop : Nat}
    (hr : ∀ w, field w 27 24 = aop → decodeArithm w = r (regField w 0) (regField w 8) (regField w 4))
    (hk : ∀ w, field w 27 24 = aop → decodeArithmc w = .ok (k (regField w 0) (regField w 4) (const16Field w 8))) :
    AluWords r k 2 aop := by
  refine fun w haop => ⟨fun hop => ?_, fun hop => ?_⟩
  · rw [decodeWord_of_arithm ((field_primary w).trans hop), hr w haop, regField_zero, regField_eq, regField_eq]
  · rw [decodeWord_of_arithmc ((field_primary w).trans hop), hk w haop, regField_zero, regField_eq, const16Field_eq]

/-- Settles O7, format by format: the words with one register or none and JUMPR, thirteen single-cycle
operations, ten multi-cycle ones, and the FP64 words. -/
theorem dontCareBitsAreIgnored : Obligations.DontCareBitsAreIgnored := by
  refine ⟨fun w => ?_, ?_, ?_, ?_, ?_, ?_, ?_, ?_, ?_, ?_, ?_, ?_, ?_, ?_, ?_, ?_, ?_, ?_, ?_, ?_, ?_, ?_, ?_, ?_,
    fun w hop => ?_⟩
  · rw [← field_primary, ← field_lowBit, ← regField_zero, ← regField_eq, ← const16Field_eq]
    exact ⟨decodeWord_of_intid, decodeWord_of_push, decodeWord_of_pop,
      fun hop ho => by rw [decodeWord_of_jumpr hop, decodeJumpr, if_pos ho],
      fun hop ho => by rw [decodeWord_of_jumpr hop, decodeJumpr, if_neg (by omega)],
      decodeWord_of_ccache, decodeWord_of_savpc, decodeWord_of_reti⟩
  iterate 13
    exact aluWords_of_arith (fun w haop => by simp only [decodeArith, haop]) fun w haop => by simp only [decodeArithc, haop]
  iterate 10
    exact aluWords_of_arithm (fun w haop => by simp only [decodeArithm, haop]) fun w haop => by simp only [decodeArithmc, haop]
  rw [decodeWord_of_arithm ((field_primary w).trans hop), ← field_aluOpcode]
  refine ⟨fun haop => ?_, fun haop => ?_, fun haop => ?_, fun haop => ?_, fun haop => ?_, fun haop => ?_⟩
  all_goals simp only [decodeArithm, haop, fregField_eq, regField_eq, Nat.pow_zero, Nat.div_one]

end Sys2Proof.Machine
end

section
/-! What the decoder answers (30_encoding.md R79) and what it refuses (R81, R82). -/

namespace Sys2Proof.Machine

theorem wellFormed_decodeArithm (w : Word) : (decodeArithm w).wellFormed = true := by
  unfold decodeArithm
  split <;> simp [Instr.wellFormed, canonical_fregField]

/-- Settles O5: only ARITHM names FP64 registers, and there `fregField` keeps three bits. -/
theorem decodedInstructionsAreWellFormed : Obligations.DecodedInstructionsAreWellFormed := by
  intro w i h
  unfold decodeWord at h
  split at h
  case h_14 => exact Except.ok.inj h ▸ wellFormed_decodeArithm w
  case h_1 | h_2 | h_3 | h_10 | h_13 | h_15 | h_16 =>
    simp only [decodeHalt, decodeRead, decodeWrite, decodeBranch, decodeArithmc, decodeArithc, decodeArith] at h
    split at h <;> cases h <;> rfl
  case h_7 | h_8 =>
    obtain rfl := Except.ok.inj h
    simp only [decodeJump, decodeJumpr]
    split <;> rfl
  all_goals
    obtain rfl := Except.ok.inj h
    rfl

/-! ## The reserved words -/

section
variable {w : Word} {e e' : DecodeError} {p : Prop}

/-- A branch of a sub-decoder that rejects stands in the class `p`. -/
theorem error_eq_error_iff (hp : p) : (Except.error e' : Except DecodeError Instr) = .error e ↔ e = e' ∧ p := by
  simp [hp, eq_comm (b := e)]

/-- A branch that answers an instruction does not. -/
theorem ok_eq_error_iff {i : Instr} (hp : ¬ p) : (Except.ok i : Except DecodeError Instr) = .error e ↔ e = e' ∧ p := by
  simp [hp]

theorem decodeHalt_error : decodeHalt w = .error e ↔ e = .reservedHalt ∧ w ≠ 0xFFFFFFFF#32 := by
  unfold decodeHalt
  split
  case isTrue hw => exact ok_eq_error_iff (not_not.2 hw)
  case isFalse hw => exact error_eq_error_iff hw

theorem decodeRead_error :
    decodeRead w = .error e ↔ e = .reservedRead ∧ (field w 7 4 = 3 ∨ field w 7 4 = 4 ∨ 7 ≤ field w 7 4) := by
  unfold decodeRead
  split
  case h_6 => exact error_eq_error_iff (by grind)
  all_goals exact ok_eq_error_iff (by omega)

theorem decodeWrite_error : decodeWrite w = .error e ↔ e = .reservedWrite ∧ 3 ≤ field w 3 0 := by
  unfold decodeWrite
  split
  case h_4 => exact error_eq_error_iff (by grind)
  all_goals exact ok_eq_error_iff (by omega)

theorem decodeBranch_error :
    decodeBranch w = .error e ↔ e = .reservedBranch ∧ (field w 3 0 / 2 = 3 ∨ field w 3 0 / 2 = 7) := by
  have hlt : field w 3 0 < 16 := Nat.mod_lt _ (by decide)
  unfold decodeBranch
  split
  case h_13 => exact error_eq_error_iff (by grind)
  all_goals exact ok_eq_error_iff (by omega)

theorem decodeArithmc_error :
    decodeArithmc w = .error e ↔ e = .reservedArithmc ∧ (8 ≤ field w 27 24 ∧ field w 27 24 ≤ 13) := by
  have hlt : field w 27 24 < 16 := Nat.mod_lt _ (by decide)
  unfold decodeArithmc
  split
  case h_11 => exact error_eq_error_iff (by grind)
  all_goals exact ok_eq_error_iff (by omega)

theorem decodeArithc_error :
    decodeArithc w = .error e ↔ e = .reservedArith ∧ (field w 27 24 = 8 ∨ field w 27 24 = 9 ∨ field w 27 24 = 15) := by
  have hlt : field w 27 24 < 16 := Nat.mod_lt _ (by decide)
  unfold decodeArithc
  split
  case h_14 => exact error_eq_error_iff (by grind)
  all_goals exact ok_eq_error_iff (by omega)

theorem decodeArith_error :
    decodeArith w = .error e ↔ e = .reservedArith ∧ (field w 27 24 = 8 ∨ field w 27 24 = 9 ∨ field w 27 24 = 15) := by
  have hlt : field w 27 24 < 16 := Nat.mod_lt _ (by decide)
  unfold decodeArith
  split
  case h_14 => exact error_eq_error_iff (by grind)
  all_goals exact ok_eq_error_iff (by omega)

end

/-- The words of each class of 30_encoding.md R81, in the numbers of the statement. A word is never too short. -/
def ReservedAs (w : Word) : DecodeError → Prop
  | .reservedArith =>
    (w.toNat / 2 ^ 28 = 0 ∨ w.toNat / 2 ^ 28 = 1) ∧
      (w.toNat / 2 ^ 24 % 16 = 8 ∨ w.toNat / 2 ^ 24 % 16 = 9 ∨ w.toNat / 2 ^ 24 % 16 = 15)
  | .reservedBranch => w.toNat / 2 ^ 28 = 6 ∧ (w.toNat / 2 % 8 = 3 ∨ w.toNat / 2 % 8 = 7)
  | .reservedRead =>
    w.toNat / 2 ^ 28 = 14 ∧ (w.toNat / 2 ^ 4 % 16 = 3 ∨ w.toNat / 2 ^ 4 % 16 = 4 ∨ 7 ≤ w.toNat / 2 ^ 4 % 16)
  | .reservedWrite => w.toNat / 2 ^ 28 = 13 ∧ 3 ≤ w.toNat % 16
  | .reservedArithmc => w.toNat / 2 ^ 28 = 3 ∧ 8 ≤ w.toNat / 2 ^ 24 % 16 ∧ w.toNat / 2 ^ 24 % 16 ≤ 13
  | .reservedHalt => w.toNat / 2 ^ 28 = 15 ∧ w ≠ 0xFFFFFFFF#32
  | .truncated => False

/-- Bits 3:1, the branch opcode (30_encoding.md R76). -/
theorem field_branchOpcode (w : Word) : field w 3 0 / 2 = w.toNat / 2 % 8 := by
  rw [field_lowNibble]
  omega

/-- A rejected word is of the class whose name it is rejected by: the primary opcode says which sub-decoder rejects it. -/
theorem reservedAs_of_error {w : Word} {e : DecodeError} (h : decodeWord w = .error e) : ReservedAs w e := by
  unfold decodeWord at h
  split at h
  case h_1 hop =>
    obtain ⟨rfl, hw⟩ := decodeHalt_error.1 h
    exact ⟨field_primary w ▸ hop, hw⟩
  case h_2 hop =>
    obtain ⟨rfl, hsub⟩ := decodeRead_error.1 h
    exact ⟨field_primary w ▸ hop, hsub⟩
  case h_3 hop =>
    obtain ⟨rfl, hsub⟩ := decodeWrite_error.1 h
    exact ⟨field_primary w ▸ hop, field_lowNibble w ▸ hsub⟩
  case h_10 hop =>
    obtain ⟨rfl, hsub⟩ := decodeBranch_error.1 h
    exact ⟨field_primary w ▸ hop, field_branchOpcode w ▸ hsub⟩
  case h_13 hop =>
    obtain ⟨rfl, haop⟩ := decodeArithmc_error.1 h
    exact ⟨field_primary w ▸ hop, haop⟩
  case h_15 hop =>
    obtain ⟨rfl, haop⟩ := decodeArithc_error.1 h
    exact ⟨.inr (field_primary w ▸ hop), haop⟩
  case h_16 =>
    obtain ⟨rfl, haop⟩ := decodeArith_error.1 h
    have hlt : field w 31 28 < 16 := Nat.mod_lt _ (by decide)
    have hop : field w 31 28 = 0 := by grind
    exact ⟨.inl (field_primary w ▸ hop), haop⟩
  all_goals cases h

/-- A word of a class is rejected by the class's name. -/
theorem error_of_reservedAs {w : Word} {e : DecodeError} (h : ReservedAs w e) : decodeWord w = .error e := by
  cases e
  case reservedArith =>
    obtain ⟨hop | hop, haop⟩ := h <;> rw [← field_primary] at hop
    · rw [decodeWord_of_arith hop, decodeArith_error]
      exact ⟨rfl, haop⟩
    · rw [decodeWord_of_arithc hop, decodeArithc_error]
      exact ⟨rfl, haop⟩
  case truncated => exact h.elim
  all_goals
    obtain ⟨hop, hsub⟩ := h
    rw [← field_primary] at hop
  case reservedBranch =>
    rw [decodeWord_of_branch hop, decodeBranch_error, field_branchOpcode]
    exact ⟨rfl, hsub⟩
  case reservedRead =>
    rw [decodeWord_of_read hop, decodeRead_error]
    exact ⟨rfl, hsub⟩
  case reservedWrite =>
    rw [decodeWord_of_write hop, decodeWrite_error, field_lowNibble]
    exact ⟨rfl, hsub⟩
  case reservedArithmc =>
    rw [decodeWord_of_arithmc hop, decodeArithmc_error]
    exact ⟨rfl, hsub⟩
  case reservedHalt =>
    rw [decodeWord_of_halt hop, decodeHalt_error]
    exact ⟨rfl, hsub⟩

theorem decodeWord_error {w : Word} {e : DecodeError} : decodeWord w = .error e ↔ ReservedAs w e :=
  ⟨reservedAs_of_error, error_of_reservedAs⟩

/-- Settles O4: each class by `decodeWord_error`, and `runWord` refuses what the decoder rejects. -/
theorem reservedWordsAreRefusedByName : Obligations.ReservedWordsAreRefusedByName := by
  refine ⟨fun w => ⟨decodeWord_error, decodeWord_error, decodeWord_error, decodeWord_error, decodeWord_error,
    decodeWord_error, decodeWord_error.1⟩, fun s t w e hfetch hdec => ?_⟩
  rw [step, hfetch, andThen_ok, runWord, hdec]

/-! ## Words written out -/

/-- Settles O6, word by word. -/
theorem encodingTableWordsDecode : Obligations.EncodingTableWordsDecode := by
  unfold Obligations.EncodingTableWordsDecode
  decide

end Sys2Proof.Machine
end

section
/-! The opcode table (30_encoding.md R89). A word has the opcode of a row iff it matches the row: the mnemonic answered depends on the masked
bits alone, and every word that is not reserved matches a row. -/

namespace Sys2Proof.Machine

/-- The mnemonic of the instruction a word decodes to. -/
def decodedMnemonic (w : Word) : Option String := (decodeWord w).toOption.map Instr.mnemonic

theorem decodedMnemonic_eq_some {w : Word} {m : String} :
    decodedMnemonic w = some m ↔ ∃ i, decodeWord w = .ok i ∧ i.mnemonic = m := by
  unfold decodedMnemonic
  cases decodeWord w <;> simp [Except.toOption]

/-- The mask of the row of a word's opcode: bit 0 is masked out for BEQ and BNE, to which S means nothing (30_encoding.md R76). -/
def opcodeMask (w : Word) : Word :=
  match field w 31 28 with
  | 15 => 0xFFFFFFFF#32
  | 14 => 0xF00000F0#32
  | 13 => 0xF000000F#32
  | 9 | 8 => 0xF0000001#32
  | 6 => if field w 3 0 / 2 % 4 = 0 then 0xF000000E#32 else 0xF000000F#32
  | 3 | 2 | 1 | 0 => 0xFF000000#32
  | _ => 0xF0000000#32

/-! ## Closed facts about the table -/

theorem mask_of_mem_table : ∀ row ∈ opcodeTable, row.mask = opcodeMask row.pattern := by decide

theorem mnemonic_of_mem_table : ∀ row ∈ opcodeTable, decodedMnemonic row.pattern = some row.mnemonic := by decide

theorem nodup_table_mnemonics : (opcodeTable.map OpcodeRow.mnemonic).Nodup := by decide

/-! ## The mnemonic depends on the masked bits alone -/

/-- A mask with all the bits of a field keeps the field. -/
theorem field_and {w m : Word} {hi lo : Nat} (hm : field m hi lo = 2 ^ (hi - lo + 1) - 1) :
    field (w &&& m) hi lo = field w hi lo := by
  unfold field at *
  rw [BitVec.toNat_and, Nat.and_div_two_pow, Nat.and_mod_two_pow, hm, Nat.and_two_pow_sub_one_eq_mod, Nat.mod_mod]

theorem field_eq_of_and {w v m : Word} {hi lo : Nat} (h : w &&& m = v) (hm : field m hi lo = 2 ^ (hi - lo + 1) - 1) :
    field w hi lo = field v hi lo := by
  rw [← h, field_and hm]

theorem field_opcodeMask (v : Word) : field (opcodeMask v) 31 28 = 2 ^ (31 - 28 + 1) - 1 := by
  unfold opcodeMask
  split
  case h_6 => split <;> decide
  all_goals decide

theorem field_branchBits (w : Word) : field w 3 1 = field w 3 0 / 2 := by
  simp only [field]
  omega

/-- Where S means nothing: BEQ and BNE (30_encoding.md R76). -/
theorem decodeBranch_unsigned {w : Word} {n : Nat} (h : field w 3 1 = n) (hn : n = 0 ∨ n = 4) :
    (decodeBranch w).toOption.map Instr.mnemonic = some (if n = 0 then "BEQ" else "BNE") := by
  rw [field_branchBits] at h
  have hsub : field w 3 0 = n * 2 ∨ field w 3 0 = n * 2 + 1 := by omega
  rcases hn with rfl | rfl <;> rcases hsub with hsub | hsub <;> simp [decodeBranch, hsub, Except.toOption, Instr.mnemonic]

/-- Two words that agree under the mask of one of them have the same primary opcode, and the bits its sub-decoder looks at are the same. -/
theorem decodedMnemonic_of_and {w v : Word} (h : w &&& opcodeMask v = v) : decodedMnemonic w = decodedMnemonic v := by
  have hop : field w 31 28 = field v 31 28 := field_eq_of_and h (field_opcodeMask v)
  unfold decodedMnemonic decodeWord
  rw [hop]
  split
  case h_1 hv =>
    simp only [opcodeMask, hv] at h
    obtain rfl : w = v := BitVec.and_allOnes.symm.trans h
    rfl
  case h_2 hv | h_3 hv | h_7 hv | h_8 hv | h_13 hv | h_14 hv | h_15 hv =>
    simp only [opcodeMask, hv] at h
    simp only [decodeRead, decodeWrite, decodeJump, decodeJumpr, decodeArithmc, decodeArithm, decodeArithc]
    rw [field_eq_of_and h (by decide)]
    split <;> rfl
  case h_10 hv =>
    simp only [opcodeMask, hv] at h
    split at h
    case isTrue hs =>
      have hw := field_eq_of_and (hi := 3) (lo := 1) h (by decide)
      have hlt : field v 3 1 < 8 := Nat.mod_lt _ (by decide)
      rw [← field_branchBits] at hs
      rw [decodeBranch_unsigned hw (by omega), decodeBranch_unsigned rfl (by omega)]
    case isFalse =>
      unfold decodeBranch
      rw [field_eq_of_and h (by decide)]
      split <;> rfl
  case h_16 =>
    have hlt : field v 31 28 < 16 := Nat.mod_lt _ (by decide)
    have hv : field v 31 28 = 0 := by grind
    simp only [opcodeMask, hv] at h
    unfold decodeArith
    rw [field_eq_of_and h (by decide)]
    split <;> rfl
  all_goals rfl

/-! ## Every word that is not reserved matches a row -/

/-- A row with mask `m` and pattern `p`. -/
def InTable (m p : Word) : Prop := ∃ row ∈ opcodeTable, row.mask = m ∧ row.pattern = p

theorem inTable_primary : ∀ a ∈ [4, 5, 7, 10, 11, 12], InTable 0xF0000000#32 (BitVec.ofNat 32 (a * 2 ^ 28)) := by
  unfold InTable
  decide

theorem inTable_read : ∀ b < 16, ¬ (b = 3 ∨ b = 4 ∨ 7 ≤ b) →
    InTable 0xF00000F0#32 (BitVec.ofNat 32 (14 * 2 ^ 28 + b * 2 ^ 4)) := by
  unfold InTable
  decide

theorem inTable_write : ∀ b < 16, ¬ 3 ≤ b → InTable 0xF000000F#32 (BitVec.ofNat 32 (13 * 2 ^ 28 + b)) := by
  unfold InTable
  decide

theorem inTable_jump : ∀ a ∈ [8, 9], ∀ b < 2, InTable 0xF0000001#32 (BitVec.ofNat 32 (a * 2 ^ 28 + b)) := by
  unfold InTable
  decide

theorem inTable_branch_unsigned : ∀ b ∈ [0, 4], InTable 0xF000000E#32 (BitVec.ofNat 32 (6 * 2 ^ 28 + b * 2)) := by
  unfold InTable
  decide

theorem inTable_branch : ∀ b < 16, ¬ (b / 2 = 0 ∨ b / 2 = 4) → ¬ (b / 2 = 3 ∨ b / 2 = 7) →
    InTable 0xF000000F#32 (BitVec.ofNat 32 (6 * 2 ^ 28 + b)) := by
  unfold InTable
  decide

theorem inTable_single : ∀ a < 2, ∀ b < 16, ¬ (b = 8 ∨ b = 9 ∨ b = 15) →
    InTable 0xFF000000#32 (BitVec.ofNat 32 (a * 2 ^ 28 + b * 2 ^ 24)) := by
  unfold InTable
  decide

theorem inTable_arithm : ∀ b < 16, InTable 0xFF000000#32 (BitVec.ofNat 32 (2 * 2 ^ 28 + b * 2 ^ 24)) := by
  unfold InTable
  decide

theorem inTable_arithmc : ∀ b < 16, ¬ (8 ≤ b ∧ b ≤ 13) →
    InTable 0xFF000000#32 (BitVec.ofNat 32 (3 * 2 ^ 28 + b * 2 ^ 24)) := by
  unfold InTable
  decide

/-- The row of a word, from its mask and the bits under it. -/
theorem InTable.matches {w m p : Word} (ht : InTable m p) (h : w &&& m = p) : ∃ row ∈ opcodeTable, w &&& row.mask = row.pattern := by
  obtain ⟨row, hrow, rfl, rfl⟩ := ht
  exact ⟨row, hrow, h⟩

/-- A word whose sub-decoder answers an instruction is not of the class that sub-decoder rejects. -/
theorem not_reserved_of_ok {r : Except DecodeError Instr} {e : DecodeError} {i : Instr} {p : Prop} (hclass : r = .error e ↔ e = e ∧ p)
    (h : r = .ok i) : ¬ p := fun hp => by
  cases h.symm.trans (hclass.2 ⟨rfl, hp⟩)

/-- Under each primary opcode every sub-opcode that is not reserved has a row. -/
theorem matchesRow_of_decodeWord {w : Word} {i : Instr} (h : decodeWord w = .ok i) :
    ∃ row ∈ opcodeTable, w &&& row.mask = row.pattern := by
  have haop : field w 27 24 < 16 := Nat.mod_lt _ (by decide)
  have hlow : field w 3 0 < 16 := Nat.mod_lt _ (by decide)
  have hbit : field w 0 0 < 2 := Nat.mod_lt _ (by decide)
  unfold decodeWord at h
  split at h
  case h_1 =>
    obtain rfl := not_not.1 (not_reserved_of_ok decodeHalt_error h)
    decide
  case h_2 hop =>
    have hsub : field w 7 4 < 16 := Nat.mod_lt _ (by decide)
    exact (inTable_read _ hsub (not_reserved_of_ok decodeRead_error h)).matches
      ((mask_read (by decide) hsub).2 ⟨hop, rfl⟩)
  case h_3 hop =>
    exact (inTable_write _ hlow (not_reserved_of_ok decodeWrite_error h)).matches
      ((mask_write (by decide) hlow).2 ⟨hop, rfl⟩)
  case h_7 hop | h_8 hop => exact (inTable_jump _ (by decide) _ hbit).matches ((mask_jump (by decide) hbit).2 ⟨hop, rfl⟩)
  case h_10 hop =>
    by_cases hs : field w 3 0 / 2 = 0 ∨ field w 3 0 / 2 = 4
    · exact (inTable_branch_unsigned _ (by simpa using hs)).matches ((mask_branch (by decide) (by omega)).2 ⟨hop, rfl⟩)
    · exact (inTable_branch _ hlow hs (not_reserved_of_ok decodeBranch_error h)).matches
        ((mask_write (by decide) hlow).2 ⟨hop, rfl⟩)
  case h_13 hop =>
    exact (inTable_arithmc _ haop (not_reserved_of_ok decodeArithmc_error h)).matches
      ((mask_arith (by decide) haop).2 ⟨hop, rfl⟩)
  case h_14 hop => exact (inTable_arithm _ haop).matches ((mask_arith (by decide) haop).2 ⟨hop, rfl⟩)
  case h_15 hop =>
    exact (inTable_single 1 (by decide) _ haop (not_reserved_of_ok decodeArithc_error h)).matches
      ((mask_arith (by decide) haop).2 ⟨hop, rfl⟩)
  case h_16 =>
    have hlt : field w 31 28 < 16 := Nat.mod_lt _ (by decide)
    have hop : field w 31 28 = 0 := by grind
    exact (inTable_single 0 (by decide) _ haop (not_reserved_of_ok decodeArith_error h)).matches
      ((mask_arith (by decide) haop).2 ⟨hop, rfl⟩)
  case h_4 hop | h_5 hop | h_6 hop | h_9 hop | h_11 hop | h_12 hop =>
    exact (inTable_primary _ (by decide)).matches ((mask_primary (by decide)).2 hop)

/-! ## The rows -/

theorem decodedMnemonic_of_match {row : OpcodeRow} {w : Word} (hrow : row ∈ opcodeTable) (h : w &&& row.mask = row.pattern) :
    decodedMnemonic w = some row.mnemonic := by
  rw [mask_of_mem_table row hrow] at h
  rw [decodedMnemonic_of_and h, mnemonic_of_mem_table row hrow]

/-- Settles O3. A word that decodes to the row's mnemonic matches some row, which has that mnemonic, and names are told apart. -/
theorem opcodeTableRowsSpellTheirInstruction : Obligations.OpcodeTableRowsSpellTheirInstruction := by
  intro row hrow w
  rw [← decodedMnemonic_eq_some]
  refine ⟨decodedMnemonic_of_match hrow, fun hname => ?_⟩
  obtain ⟨i, hdec, _⟩ := decodedMnemonic_eq_some.1 hname
  obtain ⟨row', hrow', hmatch⟩ := matchesRow_of_decodeWord hdec
  have hsame : row.mnemonic = row'.mnemonic := Option.some.inj (hname.symm.trans (decodedMnemonic_of_match hrow' hmatch))
  obtain rfl := List.inj_on_of_nodup_map nodup_table_mnemonics hrow hrow' hsame
  exact hmatch

end Sys2Proof.Machine
end

section
/-! The statements of 40_control_flow.md R100 to R118. Every taken transfer is `takeJump`, whose whole effect `jumpResult_takeJump` says;
what is left is each target, each condition, and the HALT at which no interrupt is taken. -/

namespace Sys2Proof.Machine

/-! ## HALT (R101) -/

theorem exec_halt (s : State) : exec .halt s = .next (takeJump s s.pc) := rfl

/-- Settles O23. -/
theorem haltIsATakenJumpToItself : Obligations.HaltIsATakenJumpToItself := fun s =>
  ⟨_, exec_halt s, jumpResult_takeJump s s.pc⟩

/-- With interrupts disabled a taken jump is no interrupt point (60_exceptions.md R206). -/
theorem takeJump_of_disabled {s : State} (h : s.intDisabled = true) (target : Word) : takeJump s target = s.setPc target := by
  rw [takeJump, if_pos h]

/-- With interrupts enabled and nothing offered the environment is asked and the jump goes on (60_exceptions.md R203, R206). -/
theorem takeJump_of_quiet {s : State} (hen : s.intDisabled = false) (hoff : offered s = 0#8) (target : Word) :
    takeJump s target = (raiseRequests s).setPc target := by
  rw [takeJump, if_neg (by simp [hen]), (firstLine_none _).2 hoff]

/-- Nothing is offered only where nothing was outstanding. -/
theorem pending_of_offered_zero {s : State} (h : offered s = 0#8) : s.pending = 0#8 :=
  (BitVec.or_eq_zero_iff.1 h).1

/-- An interrupt point at which nothing is offered changes the environment's own two fields alone (log entry 5). -/
theorem raiseRequests_restore_environment {s : State} (h : offered s = 0#8) :
    ((raiseRequests s).setIrqEnv s.irqEnv).setIrqDraws s.irqDraws = s := by
  calc ((raiseRequests s).setIrqEnv s.irqEnv).setIrqDraws s.irqDraws = s.setPending (offered s) := rfl
    _ = s.setPending s.pending := by rw [h, pending_of_offered_zero h]
    _ = s := rfl

/-- Nothing is offered where nothing is outstanding and the environment never raises anything (60_exceptions.md R203). -/
theorem offered_of_never {s : State} (hp : s.pending = 0#8) (he : s.irqEnv = .schedule []) : offered s = 0#8 := by
  rw [offered, hp, raisedNow_schedule he, List.headD_nil, BitVec.zero_or]

/-- An environment that never raises anything does not move on. -/
theorem raiseRequests_of_never {s : State} (hp : s.pending = 0#8) (he : s.irqEnv = .schedule []) : raiseRequests s = s := by
  have henv : s.irqEnv.next = s.irqEnv := by rw [he, InterruptEnv.next, List.tail_nil]
  have hdraws : s.irqDraws + s.irqEnv.draws = s.irqDraws := by rw [he, InterruptEnv.draws, Nat.add_zero]
  calc raiseRequests s = ((raiseRequests s).setIrqEnv s.irqEnv).setIrqDraws s.irqDraws := by
        rw [raiseRequests, henv, hdraws]
        rfl
    _ = s := raiseRequests_restore_environment (offered_of_never hp he)

/-- Settles O24: in each situation `takeJump` writes `pc` back to a state that is `s`, but for the environment in the second. -/
theorem haltWithoutInterruptChangesNothing : Obligations.HaltWithoutInterruptChangesNothing := by
  intro s
  have hdisabled (h : s.intDisabled = true) : exec .halt s = .next s := by
    rw [exec_halt, takeJump_of_disabled h]
    rfl
  refine ⟨hdisabled, fun hen hoff => ?_, fun hp he => ?_⟩
  · refine ⟨(raiseRequests s).setPc s.pc, ?_, environmentMovesOn_raiseRequests rfl rfl, raiseRequests_restore_environment hoff⟩
    rw [exec_halt, takeJump_of_quiet hen hoff]
  · cases hen : s.intDisabled with
    | true => exact hdisabled hen
    | false =>
      rw [exec_halt, takeJump_of_quiet hen (offered_of_never hp he), raiseRequests_of_never hp he]
      rfl

/-! ## The targets (R100 to R106, decision D2) -/

/-- A `const16` counts bytes. -/
theorem codeOffset16_eq_constOperand (c : Const16) : codeOffset16 c = constOperand c := by
  rw [codeOffset16, jumpUnit, BitVec.one_mul, sext16_eq_constOperand]

/-- A `const27` counts bytes. -/
theorem codeOffset27_eq_ofNat (n : Const27) : codeOffset27 n = BitVec.ofNat 32 n.toNat := by
  rw [codeOffset27, jumpUnit, BitVec.one_mul, zext27, BitVec.ofNat_toNat]

/-- Adding the signed constant is addition of integers modulo 2^32. -/
theorem add_constOperand (x : Word) (c : Const16) : x + constOperand c = BitVec.ofInt 32 (x.toInt + c.toInt) := by
  rw [constOperand, BitVec.ofInt_add, BitVec.ofInt_toInt]

theorem jumpTarget_eq (n : Const27) : jumpTarget n = BitVec.ofNat 32 n.toNat := codeOffset27_eq_ofNat n

theorem jumpoTarget_eq (s : State) (n : Const27) : jumpoTarget s n = BitVec.ofNat 32 (s.pc.toNat + n.toNat) := by
  rw [jumpoTarget, codeOffset27_eq_ofNat, BitVec.ofNat_add, BitVec.ofNat_toNat 32 s.pc, BitVec.setWidth_eq]

theorem jumprTarget_eq (s : State) (b : Reg) (c : Const16) :
    jumprTarget s b c = BitVec.ofInt 32 ((readReg s b).toInt + c.toInt) := by
  rw [jumprTarget, codeOffset16_eq_constOperand, add_constOperand]

theorem jumproTarget_eq (s : State) (b : Reg) (c : Const16) :
    jumproTarget s b c = BitVec.ofInt 32 (s.pc.toInt + (readReg s b).toInt + c.toInt) := by
  rw [jumproTarget, codeOffset16_eq_constOperand, constOperand, BitVec.ofInt_add, BitVec.ofInt_add, BitVec.ofInt_toInt,
    BitVec.ofInt_toInt]

theorem branchTarget_eq (s : State) (c : Const16) : branchTarget s c = s.pc + constOperand c := by
  rw [branchTarget, codeOffset16_eq_constOperand]

/-! ## The jumps (R102 to R105) -/

/-- An instruction that ends with `takeJump` completes as a taken jump to its target, however that is spelt. -/
theorem completes_as_jump {i : Instr} {s : State} {t target : Word} (hexec : exec i s = .next (takeJump s t)) (ht : t = target) :
    ∃ u, exec i s = .next u ∧ JumpResult s u target :=
  ⟨_, hexec, ht ▸ jumpResult_takeJump s t⟩

/-- Settles O25, target by target. -/
theorem jumpsGoToTheirTargets : Obligations.JumpsGoToTheirTargets := fun s n b c =>
  ⟨completes_as_jump rfl (jumpTarget_eq n), completes_as_jump rfl (jumpoTarget_eq s n),
    completes_as_jump rfl (jumprTarget_eq s b c), completes_as_jump rfl (jumproTarget_eq s b c)⟩

/-! ## The branches (R106 to R116) -/

/-- A BRANCH whose condition decides `C` has the effect the statements give it. -/
theorem branchEffect_of_cond {br : Reg → Reg → Const16 → Instr} {cond : Word → Word → Bool} {C : Word → Word → Prop}
    (hexec : ∀ a b c s, exec (br a b c) s = branchIf cond a b c s) (hcond : ∀ x y, cond x y = true ↔ C x y) :
    BranchEffect br C := by
  refine fun s a b c => ⟨fun h => ?_, fun h => ?_⟩
  · refine completes_as_jump ?_ (branchTarget_eq s c)
    rw [hexec, branchIf, if_pos ((hcond _ _).2 h)]
  · refine ⟨advance s, ?_, goesOn_advance s⟩
    rw [hexec, branchIf, if_neg (mt (hcond _ _).1 h)]

/-- Settles O26: equality, its negation, and eight comparisons of integers. -/
theorem branchesFollowTheirConditions : Obligations.BranchesFollowTheirConditions := by
  refine ⟨branchEffect_of_cond (cond := condEq) (fun _ _ _ _ => rfl) fun _ _ => beq_iff_eq,
    branchEffect_of_cond (cond := condNe) (fun _ _ _ _ => rfl) fun _ _ => bne_iff_ne, ?_, ?_, ?_, ?_, ?_, ?_, ?_, ?_⟩
  all_goals exact branchEffect_of_cond (fun _ _ _ _ => rfl) fun _ _ => decide_eq_true_iff

/-! ## SAVPC and RETI (R117, R118) -/

/-- Settles O27: the decoder does not look at the x bits (30_encoding.md R80), and the result of SAVPC is its own `pc`. -/
theorem savpcWritesItsOwnAddress : Obligations.SavpcWritesItsOwnAddress := by
  refine ⟨fun w hop _ => ?_, fun s d => ⟨_, rfl, regResult_advance_writeReg s d s.pc⟩⟩
  rw [decodeWord_of_savpc ((field_primary w).trans hop), regField_zero]

/-- Settles O28: `returnFromInterrupt` writes `pc` and int_disabled alone. -/
theorem retiReturnsToPcBackup : Obligations.RetiReturnsToPcBackup := fun s =>
  ⟨returnFromInterrupt s, rfl, returnFromInterrupt_pc s, returnFromInterrupt_intDisabled s, returnFromInterrupt_pcBackup s,
    returnFromInterrupt_intId s, by simp [KeepsRequests], readReg_congr (returnFromInterrupt_gpr s),
    readF_congr (returnFromInterrupt_fpr s), ⟨stackAt_congr (returnFromInterrupt_stack s), returnFromInterrupt_sp s⟩,
    by simp [KeepsFetch], returnFromInterrupt_deviceLog s,
    readByte_congr (returnFromInterrupt_mem s) (returnFromInterrupt_rom s)⟩

end Sys2Proof.Machine
end

section
/-! The statements of 41_memory_access.md R120 to R130: the READs and WRITEs that complete, PUSH and POP. -/

namespace Sys2Proof.Machine

/-- An instruction whose one result goes to a general register completes with that result, however it is spelt. -/
theorem completes_with_result {i : Instr} {s : State} {d : Reg} {v w : Word} (hexec : exec i s = .next (advance (writeReg s d v)))
    (hv : v = w) : ∃ t, exec i s = .next t ∧ RegResult s t d w :=
  ⟨_, hexec, hv ▸ regResult_advance_writeReg s d v⟩

/-! ## READ (R121) -/

/-- The lowest address holds bits 7:0 (20_memory.md R34, decision D1). -/
theorem wordOfBytes_eq (b0 b1 b2 b3 : Byte) : wordOfBytes b0 b1 b2 b3 = b3 ++ b2 ++ b1 ++ b0 := rfl

/-- A word READ of SDRAM whose four bytes have a value (20_memory.md R37). -/
theorem exec_read_sdram {s : State} {a : Reg} {c : Const16} {v : Word} (d : Reg) (h : InSdram (addrOf s a c))
    (hv : loadWord s.mem (addrOf s a c / 4 * 4) = some v) : exec (.read d a c) s = .next (advance (writeReg s d v)) :=
  exec_read_next d (by simp only [memReadWord, alignDown_effAddr, regionOf_of_inSdram h, hv])

/-- Settles O30: in SDRAM and in the ROM the word read is made of the four bytes of the aligned word. -/
theorem readLoadsTheAlignedWord : Obligations.ReadLoadsTheAlignedWord := by
  intro s d a c b0 b1 b2 b3 h h0 h1 h2 h3
  have haligned : addrOf s a c / 4 * 4 % 4 = 0 := Nat.mul_mod_left _ _
  rcases h with hsdram | hrom
  · have hword := loadWord_of_bytes haligned (regionOf_of_inSdram hsdram) h0 h1 h2 h3
    exact completes_with_result (exec_read_sdram d hsdram hword) (wordOfBytes_eq b0 b1 b2 b3)
  · have hword := romWord_of_bytes haligned (regionOf_of_inRom (by simp) hrom) h0 h1 h2 h3
    exact completes_with_result (exec_read_rom d hrom) (hword.trans (wordOfBytes_eq b0 b1 b2 b3))

/-! ## READB, READBU, READH, READHU (R122 to R125) -/

/-- READB of a byte of SDRAM (R122). -/
theorem exec_readb_sdram {s : State} {a : Reg} {c : Const16} {v : Byte} (d : Reg) (h : InSdram (addrOf s a c))
    (hv : readByte s (addrOf s a c) = some v) : exec (.readb d a c) s = .next (advance (writeReg s d (sext8 v))) := by
  change execReadb d a c s = _
  rw [execReadb, memReadByte_sdram h, hv, subWordLoad_some _ (regionOf_sdram.2 h), loadInto, andThen_ok]

/-- READH of a halfword of SDRAM (R124). -/
theorem exec_readh_sdram {s : State} {a : Reg} {c : Const16} {b0 b1 : Byte} (d : Reg) (h : InSdram (addrOf s a c))
    (h0 : readByte s (addrOf s a c / 2 * 2) = some b0) (h1 : readByte s (addrOf s a c / 2 * 2 + 1) = some b1) :
    exec (.readh d a c) s = .next (advance (writeReg s d (sext16 (halfOfBytes b0 b1)))) := by
  change execReadh d a c s = _
  rw [execReadh, memReadHalf_sdram h h0 h1, loadInto, andThen_ok]

/-- The lower address holds bits 7:0 (20_memory.md R34, decision D1). -/
theorem halfOfBytes_eq (b0 b1 : Byte) : halfOfBytes b0 b1 = b1 ++ b0 := rfl

/-- Sign extension keeps the signed integer (20_memory.md R39). -/
theorem sext8_eq_ofInt (v : Byte) : sext8 v = BitVec.ofInt 32 v.toInt := rfl

theorem sext16_eq_ofInt (v : BitVec 16) : sext16 v = BitVec.ofInt 32 v.toInt := rfl

/-- Zero extension keeps the unsigned integer (20_memory.md R39). -/
theorem zext8_eq_ofNat (v : Byte) : zext8 v = BitVec.ofNat 32 v.toNat := (BitVec.ofNat_toNat 32 v).symm

theorem zext16_eq_ofNat (v : BitVec 16) : zext16 v = BitVec.ofNat 32 v.toNat := (BitVec.ofNat_toNat 32 v).symm

/-- Settles O31: each of the four instructions writes the extension of the byte or halfword read. -/
theorem subWordReadsExtend : Obligations.SubWordReadsExtend := by
  intro s d a c h
  refine ⟨fun b hb => ⟨?_, ?_⟩, fun b0 b1 h0 h1 => ?_⟩
  · exact completes_with_result (exec_readb_sdram d h hb) (sext8_eq_ofInt b)
  · exact completes_with_result (exec_readbu_sdram d h hb) (zext8_eq_ofNat b)
  · rw [← halfOfBytes_eq]
    exact ⟨completes_with_result (exec_readh_sdram d h h0 h1) (sext16_eq_ofInt _),
      completes_with_result (exec_readhu_sdram d h h0 h1) (zext16_eq_ofNat _)⟩

/-! ## WRITE, WRITEB, WRITEH (R126 to R128) -/

/-- A store of `n` bytes to the aligned unit that holds an address of SDRAM completes with them there, however they are spelt. -/
theorem completes_as_store {i : Instr} {s : State} {x n : Nat} {bs bs' : List Byte}
    (hexec : exec i s = .next (advance (storeSdram s (x / n * n) bs))) (hn : n = 1 ∨ n = 2 ∨ n = 4) (hlen : bs.length = n)
    (hx : InSdram x) (hbs : bs = bs') : ∃ t, exec i s = .next t ∧ StoreResult s t (x / n * n) bs' := by
  subst hbs
  exact ⟨_, hexec, storeResult_advance_storeSdram s _ bs fun _ hk => regionOf_aligned_add hn (hlen ▸ hk) hx⟩

theorem subWordStore_sdram (s : State) {x : Nat} (bs : List Byte) (h : regionOf x = .sdram) :
    subWordStore s x bs = .next (storeSdram s x bs) := by
  rw [subWordStore, h]

/-- WRITEB to SDRAM (R127). -/
theorem exec_writeb_sdram {s : State} {a : Reg} {c : Const16} (b : Reg) (h : InSdram (addrOf s a c)) :
    exec (.writeb b a c) s = .next (advance (storeSdram s (addrOf s a c / 1 * 1) [(readReg s b).extractLsb' 0 8])) := by
  change execWriteb b a c s = _
  rw [execWriteb, memWriteByte, alignDown_effAddr, subWordStore_sdram s _ (regionOf_of_inSdram h), afterStore, andThen_ok]

/-- WRITEH to SDRAM (R128). -/
theorem exec_writeh_sdram {s : State} {a : Reg} {c : Const16} (b : Reg) (h : InSdram (addrOf s a c)) :
    exec (.writeh b a c) s =
      .next (advance (storeSdram s (addrOf s a c / 2 * 2) (bytesOfHalf ((readReg s b).extractLsb' 0 16)))) := by
  change execWriteh b a c s = _
  rw [execWriteh, memWriteHalf, alignDown_effAddr, subWordStore_sdram s _ (regionOf_of_inSdram h), afterStore, andThen_ok]

/-- A bit slice of a word as a number. -/
theorem extractLsb'_eq_ofNat (v : Word) (i n : Nat) : v.extractLsb' i n = BitVec.ofNat n (v.toNat / 2 ^ i) := by
  rw [BitVec.extractLsb', Nat.shiftRight_eq_div_pow]

/-- The bytes of a word, lowest first (20_memory.md R34, decision D1). -/
theorem bytesOfWord_eq (v : Word) : bytesOfWord v =
    [BitVec.ofNat 8 v.toNat, BitVec.ofNat 8 (v.toNat / 2 ^ 8), BitVec.ofNat 8 (v.toNat / 2 ^ 16),
      BitVec.ofNat 8 (v.toNat / 2 ^ 24)] := by
  simp only [bytesOfWord, byteOrder, extractLsb'_eq_ofNat, Nat.pow_zero, Nat.div_one]

/-- The bytes of the low half of a word, lower first (20_memory.md R34, decision D1). -/
theorem bytesOfHalf_extractLsb' (v : Word) :
    bytesOfHalf (v.extractLsb' 0 16) = [BitVec.ofNat 8 v.toNat, BitVec.ofNat 8 (v.toNat / 2 ^ 8)] := by
  have hlow : (v.extractLsb' 0 16).extractLsb' 0 8 = v.extractLsb' 0 8 := BitVec.extractLsb'_extractLsb'_of_le (by decide)
  have hhigh : (v.extractLsb' 0 16).extractLsb' 8 8 = v.extractLsb' 8 8 := BitVec.extractLsb'_extractLsb'_of_le (by decide)
  simp only [bytesOfHalf, byteOrder, hlow, hhigh]
  simp only [extractLsb'_eq_ofNat, Nat.pow_zero, Nat.div_one]

/-- Settles O32: the store is of the four bytes of the register to the aligned word, which lies in SDRAM. -/
theorem writeStoresTheAlignedWord : Obligations.WriteStoresTheAlignedWord := fun s b _ _ h =>
  completes_as_store (exec_write_sdram b h) (by simp) rfl h (bytesOfWord_eq (readReg s b))

/-- Settles O33, width by width; a byte address is its own aligned address. -/
theorem subWordWritesStoreTheLowBytes : Obligations.SubWordWritesStoreTheLowBytes := by
  intro s b a c h
  refine ⟨?_, completes_as_store (exec_writeh_sdram b h) (by simp) rfl h (bytesOfHalf_extractLsb' _)⟩
  have hbyte : [(readReg s b).extractLsb' 0 8] = [BitVec.ofNat 8 (readReg s b).toNat] := by
    rw [extractLsb'_eq_ofNat, Nat.pow_zero, Nat.div_one]
  have hstore := completes_as_store (exec_writeb_sdram b h) (by simp) rfl h hbyte
  rwa [Nat.div_one, Nat.mul_one] at hstore

/-! ## PUSH and POP (R129, R130) -/

/-- Settles O41: the decoder does not look at the x bits (30_encoding.md R80), and `pushStack` writes the entry SP names and SP alone. -/
theorem pushStoresAndCountsUp : Obligations.PushStoresAndCountsUp := by
  refine ⟨fun w hop _ _ => ?_, fun s b => ?_⟩
  · rw [decodeWord_of_push ((field_primary w).trans hop), regField_eq]
  · refine ⟨advance (pushStack s (readReg s b)), rfl, fun i => ?_, ?_, advance_pc _, readReg_congr (by simp), readF_congr (by simp),
      by simp [KeepsInterrupts, KeepsRequests], by simp [KeepsFetch], by simp [KeepsDevices], readByte_congr (by simp) (by simp)⟩
    · rw [stackAt_congr (advance_stack _), stackAt_pushStack]
    · rw [advance_sp, pushStack_sp, BitVec.toNat_add]
      rfl

/-- SP is counted down modulo 256 (10_state.md R17). -/
theorem toNat_popStack_sp (s : State) : (popStack s).2.sp.toNat = (s.sp.toNat + 255) % 256 := by
  rw [popStack_sp, BitVec.toNat_sub, Nat.add_comm]
  rfl

/-- POP's value is the entry that SP names afterwards (decision D31). -/
theorem popStack_fst (s : State) : (popStack s).1 = stackAt s (popStack s).2.sp := rfl

/-- Settles O42: the result of POP is written in the state in which SP is counted down, which is `s` in every other field. -/
theorem popCountsDownAndLoads : Obligations.PopCountsDownAndLoads := by
  intro s d
  have hpop := regResult_advance_writeReg (popStack s).2 d (popStack s).1
  obtain ⟨hstack, hsp⟩ := hpop.stack
  refine ⟨_, rfl, ?_, fun r => ?_, hstack, hpop.pc, hpop.fregs, hpop.interrupts, hpop.fetch, hpop.devices, hpop.memory⟩
  · rw [hsp, toNat_popStack_sp]
  · rw [hsp, ← popStack_fst]
    exact hpop.regs r

end Sys2Proof.Machine
end

section
/-! The statements of 42_arith_single.md R141 to R153. Each operation is one function of the ALU in both forms (`aluReg`, `aluConst`), so
what is left of its effect is what the function gives for any two operands. -/

namespace Sys2Proof.Machine

/-! ## From the ALU's function to the two forms (R140) -/

/-- An operation whose two forms hand their operands to the ALU function `f` (by definition, 30_encoding.md R73) has the effect of `f`. -/
theorem aluEffect_of_fn {r : Reg → Reg → Reg → Instr} {k : Reg → Reg → Const16 → Instr} {f : Word → Word → Word}
    {P : Word → Word → Word → Prop} (hf : ∀ x y, P x y (f x y))
    (hr : ∀ d a b s, exec (r d a b) s = aluReg f d a b s := by intros; rfl)
    (hk : ∀ d a c s, exec (k d a c) s = aluConst f d a c s := by intros; rfl) : AluEffect r k P := by
  refine fun s d a => ⟨fun b => ⟨_, _, hr d a b s, hf _ _, regResult_advance_writeReg s d _⟩, fun c => ?_⟩
  rw [← sext16_eq_constOperand]
  exact ⟨_, _, hk d a c s, hf _ _, regResult_advance_writeReg s d _⟩

/-- The words with their x bits 0 are among all the words (30_encoding.md R80). -/
theorem aluCanonicalWords_of_aluWords {r : Reg → Reg → Reg → Instr} {k : Reg → Reg → Const16 → Instr} {op aop : Nat}
    (h : AluWords r k op aop) : AluCanonicalWords r k op aop := fun w haop =>
  ⟨fun hop _ => (h w haop).1 hop, (h w haop).2⟩

/-! ## OR, AND, XOR and NOT (R141, R142, R143, R148) -/

/-- Settles O46: the bits of each word operation are the operation on the bits, and the words are among those of O7. -/
theorem bitwiseOperations : Obligations.BitwiseOperations := by
  obtain ⟨-, hor, hand, hxor, -, -, -, -, hnot, -⟩ := dontCareBitsAreIgnored
  refine ⟨⟨aluCanonicalWords_of_aluWords hor, ?_⟩, ⟨aluCanonicalWords_of_aluWords hand, ?_⟩,
    ⟨aluCanonicalWords_of_aluWords hxor, ?_⟩, ⟨aluCanonicalWords_of_aluWords hnot, ?_⟩⟩
  · exact aluEffect_of_fn (f := aluOr) fun _ _ _ _ => BitVec.getLsbD_or
  · exact aluEffect_of_fn (f := aluAnd) fun _ _ _ _ => BitVec.getLsbD_and
  · exact aluEffect_of_fn (f := aluXor) fun _ _ _ _ => BitVec.getLsbD_xor
  · refine aluEffect_of_fn (f := aluNot) fun x _ i hi => ?_
    rw [aluNot, BitVec.getLsbD_not, decide_eq_true hi, Bool.true_and]

/-! ## ADD and SUB (R144, R145) -/

theorem toNat_aluAdd (x y : Word) : (aluAdd x y).toNat = (x.toNat + y.toNat) % 2 ^ 32 := BitVec.toNat_add x y

/-- The difference of the unsigned numbers, modulo 2^32 also where it is negative. -/
theorem toNat_aluSub (x y : Word) : ((aluSub x y).toNat : Int) = ((x.toNat : Int) - y.toNat) % 2 ^ 32 := by
  have hy := y.isLt
  rw [aluSub, BitVec.toNat_sub]
  omega

/-- Settles O47. -/
theorem addAndSubWrap : Obligations.AddAndSubWrap := by
  obtain ⟨-, -, -, -, hadd, hsub, -⟩ := dontCareBitsAreIgnored
  exact ⟨⟨aluCanonicalWords_of_aluWords hadd, aluEffect_of_fn toNat_aluAdd⟩,
    ⟨aluCanonicalWords_of_aluWords hsub, aluEffect_of_fn toNat_aluSub⟩⟩

/-! ## The shifts (R146, R147, R153, decision D7)

The model answers amounts of 32 or more by a clause of its own; what it answers there is what the shift itself gives. -/

theorem aluShiftl_eq (x y : Word) : aluShiftl x y = x <<< y.toNat := by
  rw [aluShiftl, shiftAmount]
  split
  · rfl
  · next hge => exact (BitVec.shiftLeft_eq_zero (Nat.le_of_not_lt hge)).symm

theorem aluShiftr_eq (x y : Word) : aluShiftr x y = x >>> y.toNat := by
  rw [aluShiftr, shiftAmount]
  split
  · rfl
  · next hge => exact (BitVec.ushiftRight_eq_zero (Nat.le_of_not_lt hge)).symm

/-- A signed shift by the whole width or more leaves copies of the sign bit alone. -/
theorem sshiftRight_eq_sign {x : Word} {n : Nat} (h : 32 ≤ n) :
    x.sshiftRight n = if x.msb then 0xFFFFFFFF#32 else 0#32 := by
  split
  · next hneg => rw [BitVec.sshiftRight_eq_of_msb_true hneg, BitVec.ushiftRight_eq_zero h, BitVec.not_zero]; rfl
  · next hpos => rw [BitVec.sshiftRight_eq_of_msb_false (Bool.eq_false_of_not_eq_true hpos), BitVec.ushiftRight_eq_zero h]

theorem aluShiftrs_eq (x y : Word) : aluShiftrs x y = x.sshiftRight y.toNat := by
  rw [aluShiftrs, shiftAmount]
  split
  · rfl
  · next hge => exact (sshiftRight_eq_sign (Nat.le_of_not_lt hge)).symm

theorem toNat_aluShiftl (x y : Word) : (aluShiftl x y).toNat = x.toNat * 2 ^ y.toNat % 2 ^ 32 := by
  rw [aluShiftl_eq, BitVec.toNat_shiftLeft, Nat.shiftLeft_eq]

theorem toNat_aluShiftr (x y : Word) : (aluShiftr x y).toNat = x.toNat / 2 ^ y.toNat := by
  rw [aluShiftr_eq, BitVec.toNat_ushiftRight, Nat.shiftRight_eq_div_pow]

theorem toInt_aluShiftrs (x y : Word) : (aluShiftrs x y).toInt = x.toInt / 2 ^ y.toNat := by
  rw [aluShiftrs_eq, BitVec.toInt_sshiftRight, Int.shiftRight_eq_div_pow, Nat.cast_pow, Nat.cast_ofNat]

/-- Settles O48. -/
theorem shiftsByTheWholeAmount : Obligations.ShiftsByTheWholeAmount :=
  ⟨aluEffect_of_fn toNat_aluShiftl, aluEffect_of_fn toNat_aluShiftr, aluEffect_of_fn toInt_aluShiftrs⟩

/-! ## SLT and SLTU (R149, R150) -/

theorem toNat_aluSlt (x y : Word) : (aluSlt x y).toNat = if x.toInt < y.toInt then 1 else 0 := by
  rw [aluSlt, apply_ite BitVec.toNat]
  rfl

theorem toNat_aluSltu (x y : Word) : (aluSltu x y).toNat = if x.toNat < y.toNat then 1 else 0 := by
  rw [aluSltu, apply_ite BitVec.toNat]
  rfl

/-- Settles O49. -/
theorem setIfLess : Obligations.SetIfLess := by
  obtain ⟨-, -, -, -, -, -, -, -, -, hslt, hsltu, -⟩ := dontCareBitsAreIgnored
  exact ⟨⟨aluCanonicalWords_of_aluWords hslt, aluEffect_of_fn toNat_aluSlt⟩,
    ⟨aluCanonicalWords_of_aluWords hsltu, aluEffect_of_fn toNat_aluSltu⟩⟩

/-! ## LOAD and LOADHI (R151, R152, decision D14) -/

/-- The two halves lie beside each other, so they add. -/
theorem toNat_aluLoadhi (x y : Word) : (aluLoadhi x y).toNat = y.toNat % 2 ^ 16 * 2 ^ 16 + x.toNat % 2 ^ 16 := by
  rw [aluLoadhi, BitVec.toNat_append, BitVec.extractLsb'_toNat, BitVec.extractLsb'_toNat, Nat.shiftRight_zero, Nat.shiftRight_zero,
    ← Nat.shiftLeft_add_eq_or_of_lt (Nat.mod_lt _ (Nat.two_pow_pos 16)), Nat.shiftLeft_eq]

/-- Settles O50. -/
theorem loadAndLoadhi : Obligations.LoadAndLoadhi :=
  ⟨aluEffect_of_fn (f := aluLoad) fun _ _ => rfl, aluEffect_of_fn toNat_aluLoadhi⟩

/-- Sign extension keeps the sixteen bits it extends (00_scope.md R6). -/
theorem extractLsb'_sext16 (c : Const16) : (sext16 c).extractLsb' 0 16 = c := by
  rw [sext16, BitVec.signExtend_eq_append_of_le (by decide)]
  exact BitVec.extractLsb'_append_eq_right

/-- Of two sign-extended constants LOADHI keeps the constants themselves. -/
theorem aluLoadhi_sext16 (lo hi : Const16) : aluLoadhi (sext16 lo) (sext16 hi) = hi ++ lo := by
  rw [aluLoadhi, extractLsb'_sext16, extractLsb'_sext16]

/-- Settles O51: LOAD leaves the extended low half in `d`, and LOADHI reads it back there. -/
theorem loadThenLoadhiBuildsAnyConstant : Obligations.LoadThenLoadhiBuildsAnyConstant := by
  intro s t u d a lo hi hd hload hloadhi
  obtain rfl : advance (writeReg s d (sext16 lo)) = t := Host.Outcome.next.inj hload
  have hlow : readReg (advance (writeReg s d (sext16 lo))) d = sext16 lo := by
    rw [readReg_advance_writeReg, if_pos ⟨rfl, hd⟩]
  obtain rfl := Host.Outcome.next.inj hloadhi
  refine ⟨?_, fun r hr => ?_⟩
  · rw [readReg_advance_writeReg, if_pos ⟨rfl, hd⟩, hlow, aluLoadhi_sext16]
  · rw [readReg_advance_writeReg_of_ne _ _ hr, readReg_advance_writeReg_of_ne _ _ hr]

end Sys2Proof.Machine
end

section
/-! The statements of 43_arith_multi.md R161 to R171. Each operation is one function of the ALU in both forms, as in 42_arith_single.md. Here
each function is tied to the product or the quotient of the integers it stands for: a product by the slice of its 64 bits that is kept, a
division by its quotient and remainder. -/

namespace Sys2Proof.Machine

/-! ## Slices of a product -/

/-- The bits of an integer from bit `i` upward are those of its floor by `2 ^ i`, below the width it is cut to. -/
theorem extractLsb'_ofInt {w i len : Nat} (h : i + len ≤ w) (p : Int) :
    (BitVec.ofInt w p).extractLsb' i len = BitVec.ofInt len (p / 2 ^ i) := by
  obtain ⟨k, rfl⟩ := Nat.exists_eq_add_of_le h
  have hdrop : p % 2 ^ (i + len + k) / 2 ^ i % 2 ^ len = p / 2 ^ i % 2 ^ len := by
    have hsplit : p = p % 2 ^ (i + len + k) + 2 ^ i * (2 ^ len * (2 ^ k * (p / 2 ^ (i + len + k)))) := by
      rw [← mul_assoc, ← mul_assoc, ← pow_add, ← pow_add, Int.emod_add_mul_ediv]
    conv_rhs => rw [hsplit, Int.add_mul_ediv_left _ _ (by positivity), Int.add_mul_emod_self_left]
  apply BitVec.eq_of_toNat_eq
  apply Int.natCast_inj.mp
  rw [BitVec.extractLsb'_toNat, BitVec.toNat_ofInt, BitVec.toNat_ofInt, Nat.shiftRight_eq_div_pow]
  push_cast
  rw [Int.toNat_of_nonneg (Int.emod_nonneg _ (by positivity)), Int.toNat_of_nonneg (Int.emod_nonneg _ (by positivity)), hdrop]

/-! ## MULTS, MULTU, MULTFP, MULSHI and MULTUHI (R161 to R163, R169, R170, decision D10) -/

theorem aluMults_eq_slice (x y : Word) : aluMults x y = (BitVec.ofInt 64 (x.toInt * y.toInt)).extractLsb' 0 32 := by
  rw [extractLsb'_ofInt (by decide), pow_zero, Int.ediv_one, aluMults]

theorem aluMultfp_eq_slice (x y : Word) : aluMultfp x y = (BitVec.ofInt 64 (x.toInt * y.toInt)).extractLsb' 16 32 :=
  (extractLsb'_ofInt (by decide) _).symm

theorem aluMulshi_eq_slice (x y : Word) : aluMulshi x y = (BitVec.ofInt 64 (x.toInt * y.toInt)).extractLsb' 32 32 :=
  (extractLsb'_ofInt (by decide) _).symm

theorem aluMultuhi_eq_slice (x y : Word) : aluMultuhi x y = (BitVec.ofNat 64 (x.toNat * y.toNat)).extractLsb' 32 32 := by
  rw [← BitVec.ofInt_natCast, extractLsb'_ofInt (by decide), aluMultuhi, ← BitVec.ofInt_natCast]
  rfl

theorem toNat_aluMultu (x y : Word) : (aluMultu x y).toNat = x.toNat * y.toNat % 2 ^ 32 := BitVec.toNat_ofNat _ _

/-- The low half is that of the unsigned product (R161): both are the product of the words. -/
theorem aluMults_eq_aluMultu (x y : Word) : aluMults x y = aluMultu x y := by
  have hsigned : aluMults x y = x * y := by rw [aluMults, BitVec.ofInt_mul, BitVec.ofInt_toInt, BitVec.ofInt_toInt]
  have hunsigned : aluMultu x y = x * y := by
    rw [aluMultu, BitVec.ofNat_mul, BitVec.ofNat_toNat, BitVec.ofNat_toNat, BitVec.setWidth_eq, BitVec.setWidth_eq]
  rw [hsigned, hunsigned]

theorem toNat_aluMults (x y : Word) : (aluMults x y).toNat = x.toNat * y.toNat % 2 ^ 32 := by
  rw [aluMults_eq_aluMultu, toNat_aluMultu]

/-- Settles O52: MULTS and MULTU are the same word, and the words are among those of O7. -/
theorem productsUnsignedAndHighHalf : Obligations.ProductsUnsignedAndHighHalf := by
  obtain ⟨-, -, -, -, -, -, -, -, -, -, -, -, -, -, -, hmultu, -, -, -, -, -, -, hmulshi, hmultuhi, -⟩ := dontCareBitsAreIgnored
  exact ⟨⟨aluCanonicalWords_of_aluWords hmultu, aluEffect_of_fn toNat_aluMultu⟩,
    aluEffect_of_fn fun x y => ⟨toNat_aluMults x y, aluMults_eq_slice x y⟩,
    ⟨aluCanonicalWords_of_aluWords hmulshi, aluEffect_of_fn aluMulshi_eq_slice⟩,
    ⟨aluCanonicalWords_of_aluWords hmultuhi, aluEffect_of_fn aluMultuhi_eq_slice⟩⟩

/-- Settles O53. -/
theorem productsSignedAndFixedPoint : Obligations.ProductsSignedAndFixedPoint :=
  ⟨aluEffect_of_fn aluMults_eq_slice, aluEffect_of_fn aluMultfp_eq_slice⟩

/-! ## DIVU and MODU (R165, R168, R171, decision D9) -/

theorem aluDivu_zero (x : Word) : aluDivu x 0#32 = Config.div0 .divu x := if_pos rfl

theorem toNat_aluDivu {x y : Word} (hy : y ≠ 0#32) : (aluDivu x y).toNat = x.toNat / y.toNat := by
  rw [aluDivu, if_neg hy, BitVec.toNat_ofNat, Nat.mod_eq_of_lt ((Nat.div_le_self _ _).trans_lt x.isLt)]

theorem aluModu_zero (x : Word) : aluModu x 0#32 = Config.div0 .modu x := if_pos rfl

theorem toNat_aluModu {x y : Word} (hy : y ≠ 0#32) : (aluModu x y).toNat = x.toNat % y.toNat := by
  rw [aluModu, if_neg hy, BitVec.toNat_ofNat, Nat.mod_eq_of_lt ((Nat.mod_le _ _).trans_lt x.isLt)]

/-- Settles O54: a quotient or remainder of 32-bit numbers fits, so the word holds it. -/
theorem unsignedDivision : Obligations.UnsignedDivision := by
  obtain ⟨-, -, -, -, -, -, -, -, -, -, -, -, -, -, -, -, -, -, hdivu, -, -, hmodu, -⟩ := dontCareBitsAreIgnored
  refine ⟨⟨aluCanonicalWords_of_aluWords hdivu, aluEffect_of_fn (f := aluDivu) fun x y => ?_⟩,
    ⟨aluCanonicalWords_of_aluWords hmodu, aluEffect_of_fn (f := aluModu) fun x y => ?_⟩⟩
  · split
    · next hy => rw [hy, aluDivu_zero]
    · next hy => exact toNat_aluDivu hy
  · split
    · next hy => rw [hy, aluModu_zero]
    · next hy => exact toNat_aluModu hy

/-! ## Truncated division (decision D8) -/

theorem tmod_nonpos {n : Int} (m : Int) (h : n ≤ 0) : n.tmod m ≤ 0 := by
  have hneg : 0 ≤ (-n).tmod m := Int.tmod_nonneg m (by omega)
  rw [Int.neg_tmod] at hneg
  omega

/-- The quotient the model calls truncated is the one the statements mean, with the remainder it leaves. -/
theorem isTruncated_truncDiv (n : Int) {m : Int} (hm : m ≠ 0) : IsTruncated n m (truncDiv n m) (n.tmod m) := by
  refine ⟨(Int.mul_tdiv_add_tmod n m).symm, ?_, Int.tmod_nonneg m, tmod_nonpos m⟩
  rw [Int.natAbs_tmod]
  exact Nat.mod_lt _ (Int.natAbs_pos.mpr hm)

theorem toInt_ne_zero {y : Word} (hy : y ≠ 0#32) : y.toInt ≠ 0 := by
  rw [← BitVec.toInt_zero (w := 32)]
  exact BitVec.toInt_ne.mpr hy

/-! ## DIVS and MODS (R164, R167, R171) -/

theorem aluDivs_zero (x : Word) : aluDivs x 0#32 = Config.div0 .divs x := if_pos rfl

theorem aluMods_zero (x : Word) : aluMods x 0#32 = Config.div0 .mods x := if_pos rfl

section
variable {x y : Word}

theorem aluDivs_overflow (h : x = 0x80000000#32 ∧ y = 0xFFFFFFFF#32) : aluDivs x y = Config.divOvf .divs x y := by
  obtain ⟨rfl, rfl⟩ := h
  rfl

theorem aluMods_overflow (h : x = 0x80000000#32 ∧ y = 0xFFFFFFFF#32) : aluMods x y = Config.divOvf .mods x y := by
  obtain ⟨rfl, rfl⟩ := h
  rfl

/-- But for -2^31 over -1 every quotient of two words fits a word. -/
theorem toInt_aluDivs (hy : y ≠ 0#32) (h : ¬(x = 0x80000000#32 ∧ y = 0xFFFFFFFF#32)) :
    (aluDivs x y).toInt = truncDiv x.toInt y.toInt := by
  have hfit : (x.sdiv y).toInt = truncDiv x.toInt y.toInt := BitVec.toInt_sdiv_of_ne_or_ne x y (not_and_or.mp h)
  rw [aluDivs, if_neg hy, if_neg h, ← hfit, BitVec.ofInt_toInt]

/-- What the quotient leaves of the dividend is smaller than the divisor, so it fits a word. -/
theorem toInt_aluMods (hy : y ≠ 0#32) (h : ¬(x = 0x80000000#32 ∧ y = 0xFFFFFFFF#32)) :
    (aluMods x y).toInt = x.toInt.tmod y.toInt := by
  rw [aluMods, if_neg hy, if_neg h, truncDiv, ← Int.tmod_def, ← BitVec.toInt_srem, BitVec.ofInt_toInt]

end

/-- Settles O55. -/
theorem signedDivisionTruncates : Obligations.SignedDivisionTruncates := by
  refine ⟨aluEffect_of_fn (f := aluDivs) fun x y => ?_, aluEffect_of_fn (f := aluMods) fun x y => ?_⟩
  · split_ifs with hy hovf
    · rw [hy, aluDivs_zero]
    · exact aluDivs_overflow hovf
    · rw [toInt_aluDivs hy hovf]
      exact ⟨_, isTruncated_truncDiv _ (toInt_ne_zero hy)⟩
  · split_ifs with hy hovf
    · rw [hy, aluMods_zero]
    · exact aluMods_overflow hovf
    · rw [toInt_aluMods hy hovf]
      exact ⟨_, isTruncated_truncDiv _ (toInt_ne_zero hy)⟩

/-! ## DIVFP (R166, R171, decision D10) -/

theorem aluDivfp_zero (x : Word) : aluDivfp x 0#32 = Config.div0 .divfp x := if_pos rfl

section
variable {x y : Word}

theorem toInt_aluDivfp (hy : y ≠ 0#32) (hfit : -(2 ^ 31) ≤ quotFp x y ∧ quotFp x y ≤ 2 ^ 31 - 1) :
    (aluDivfp x y).toInt = quotFp x y := by
  rw [aluDivfp, if_neg hy, if_pos hfit]
  exact BitVec.toInt_ofInt_eq_self (by decide) hfit.1 (Int.lt_of_le_sub_one hfit.2)

theorem aluDivfp_overflow (hy : y ≠ 0#32) (hovf : ¬(-(2 ^ 31) ≤ quotFp x y ∧ quotFp x y ≤ 2 ^ 31 - 1)) :
    aluDivfp x y = Config.divOvf .divfp x y := by
  rw [aluDivfp, if_neg hy, if_neg hovf]

end

/-- Settles O56: the quotient is `quotFp`, exact on the integers, whether or not a word holds it. -/
theorem fixedPointDivision : Obligations.FixedPointDivision := by
  refine aluEffect_of_fn (f := aluDivfp) fun x y => ?_
  split
  · next hy => rw [hy, aluDivfp_zero]
  · next hy =>
    refine ⟨quotFp x y, _, isTruncated_truncDiv _ (toInt_ne_zero hy), ?_⟩
    split
    · next hfit => exact toInt_aluDivfp hy hfit
    · next hovf => exact aluDivfp_overflow hy hovf

end Sys2Proof.Machine
end

section
/-! The statements of 44_misc.md R180, R181: INTID and CCACHE. -/

namespace Sys2Proof.Machine

/-! ## INTID (R180, decision D17) -/

/-- Zero extension keeps the number in int_id. -/
theorem zext4_eq_ofNat (v : BitVec 4) : zext4 v = BitVec.ofNat 32 v.toNat := (BitVec.ofNat_toNat 32 v).symm

/-- Settles O44. -/
theorem intidReadsTheInterruptNumber : Obligations.IntidReadsTheInterruptNumber := fun s _ =>
  completes_with_result rfl (zext4_eq_ofNat s.intId)

/-! ## CCACHE (R181, 20_memory.md R53, decision D23) -/

/-- Settles O45: `clearCaches` writes the record of stores alone, and `advance` writes `pc` alone. -/
theorem ccacheEmptiesTheCaches : Obligations.CcacheEmptiesTheCaches := fun s =>
  ⟨advance (clearCaches s), rfl, clearCaches_storesSinceCcache s, clearCaches_raceCount s, advance_pc _,
    readReg_congr (by simp), readF_congr (by simp), ⟨stackAt_congr (by simp), by simp⟩,
    by simp [KeepsInterrupts, KeepsRequests], by simp [KeepsDevices], readByte_congr (by simp) (by simp)⟩

end Sys2Proof.Machine
end

section
/-! The statements of 45_fp64.md R185 to R191. `fregResult_advance_writeF` and `regResult_advance_writeReg` say what an instruction with one
result leaves, in which an FP64 result writes no general register and the reverse (R185, decision D12). Left are the values and the words. -/

namespace Sys2Proof.Machine

/-! ## The words (R185) -/

section
variable {w : Word}

/-- Where bit 3 of an FP64 field is 0, the three bits the decoder keeps are the whole field (30_encoding.md R79). -/
theorem fregField_of_lt_eight {lo : Nat} (h : w.toNat / 2 ^ lo % 16 < 8) : fregField w lo = BitVec.ofNat 4 (w.toNat / 2 ^ lo) := by
  rw [fregField_eq]
  apply BitVec.eq_of_toNat_eq
  rw [BitVec.toNat_ofNat, BitVec.toNat_ofNat]
  omega

theorem fregField_zero_of_lt_eight (h : w.toNat % 16 < 8) : fregField w 0 = BitVec.ofNat 4 w.toNat := by
  rw [fregField_of_lt_eight (by rwa [Nat.pow_zero, Nat.div_one]), Nat.pow_zero, Nat.div_one]

/-- An ARITHM word decodes by its ALU opcode alone (30_encoding.md R71, R78). -/
theorem decodeWord_of_aluOpcode {n : Nat} {i : Instr} (hop : w.toNat / 2 ^ 28 = 2) (haop : w.toNat / 2 ^ 24 % 16 = n)
    (h : field w 27 24 = n → decodeArithm w = i) : decodeWord w = .ok i := by
  rw [decodeWord_of_arithm ((field_primary w).trans hop), h haop]

end

/-! ## FMUL (R186, decision D11) -/

/-- The floor of the product by 2^32, modulo 2^64, is its bits 95:32. -/
theorem fpMul_eq_slice (x y : FWord) : fpMul x y = (BitVec.ofInt 128 (x.toInt * y.toInt)).extractLsb' 32 64 :=
  (extractLsb'_ofInt (by decide) _).symm

/-- Settles O57: `fpMul`'s value is the slice, and `fpuReg` writes it to `fd` alone. -/
theorem fmulTakesTheMiddleOfTheProduct : Obligations.FmulTakesTheMiddleOfTheProduct := by
  intro s fd fa fb
  rw [← fpMul_eq_slice]
  exact ⟨_, rfl, fregResult_advance_writeF s fd _⟩

/-! ## FADD and FSUB (R187, R188) -/

theorem toNat_fpAdd (x y : FWord) : (fpAdd x y).toNat = (x.toNat + y.toNat) % 2 ^ 64 := BitVec.toNat_add x y

/-- The difference of the unsigned numbers, modulo 2^64 also where it is negative. -/
theorem toNat_fpSub (x y : FWord) : ((fpSub x y).toNat : Int) = ((x.toNat : Int) - y.toNat) % 2 ^ 64 := by
  have hy := y.isLt
  rw [fpSub, BitVec.toNat_sub]
  omega

/-- Settles O58: both words name three FP64 registers, and both results are functions of two FP64 registers. -/
theorem faddAndFsubWrap : Obligations.FaddAndFsubWrap := by
  refine ⟨fun w hop _ hfa hfb hfd => ⟨fun haop => ?_, fun haop => ?_⟩, fun s fd fa fb => ⟨?_, ?_⟩⟩
  iterate 2
    rw [← fregField_zero_of_lt_eight hfd, ← fregField_of_lt_eight hfa, ← fregField_of_lt_eight hfb]
    exact decodeWord_of_aluOpcode hop haop fun h => by simp only [decodeArithm, h]
  · exact ⟨_, _, rfl, fregResult_advance_writeF s fd _, toNat_fpAdd _ _⟩
  · exact ⟨_, _, rfl, fregResult_advance_writeF s fd _, toNat_fpSub _ _⟩

/-! ## FLD, FSTHI and FSTLO (R189, R190, R191) -/

/-- The first word is the high half (R189). -/
theorem toNat_append_words (x y : Word) : (x ++ y).toNat = x.toNat * 2 ^ 32 + y.toNat := by
  rw [BitVec.toNat_append, ← Nat.shiftLeft_add_eq_or_of_lt y.isLt, Nat.shiftLeft_eq]

/-- Bits 63:32 (R190); nothing stands above them. -/
theorem toNat_highHalf (x : FWord) : (x.extractLsb' 32 32).toNat = x.toNat / 2 ^ 32 := by
  have hx := x.isLt
  rw [BitVec.extractLsb'_toNat, Nat.shiftRight_eq_div_pow]
  omega

/-- Bits 31:0 (R191). -/
theorem toNat_lowHalf (x : FWord) : (x.extractLsb' 0 32).toNat = x.toNat % 2 ^ 32 := BitVec.extractLsb'_toNat 0 32 x

/-- Settles O59: FLD's word names one FP64 register as destination, those of FSTHI and FSTLO one as source. -/
theorem fp64Moves : Obligations.Fp64Moves := by
  refine ⟨fun w hop _ => ⟨fun haop hfd => ?_, fun haop hfa _ => ?_, fun haop hfa _ => ?_⟩, fun s fd fa d a b => ⟨?_, ?_, ?_⟩⟩
  · rw [← fregField_zero_of_lt_eight hfd, ← regField_eq, ← regField_eq]
    exact decodeWord_of_aluOpcode hop haop fun h => by simp only [decodeArithm, h]
  iterate 2
    rw [← regField_zero, ← fregField_of_lt_eight hfa]
    exact decodeWord_of_aluOpcode hop haop fun h => by simp only [decodeArithm, h]
  · exact ⟨_, _, rfl, fregResult_advance_writeF s fd _, toNat_append_words _ _⟩
  · exact ⟨_, _, rfl, regResult_advance_writeReg s d _, toNat_highHalf _⟩
  · exact ⟨_, _, rfl, regResult_advance_writeReg s d _, toNat_lowHalf _⟩

end Sys2Proof.Machine
end

section
/-! The statements of 60_exceptions.md: where interrupts become disabled (R205 to R207), and the whole of an interruption (R211). -/

namespace Sys2Proof.Machine

/-! ## Entering the handler (R205 to R207, decision D15) -/

/-- The line taken is the one the statements call the lowest; the converse is `firstLine_of_lowestLine`. -/
theorem lowestLine_of_firstLine {p : BitVec 8} {k : Fin 8} (h : firstLine p = some k) : LowestLine p k := by
  obtain ⟨hset, hlower⟩ := firstLine_some p k h
  exact ⟨k.isLt, hset, fun j hj => hlower ⟨j, hj.trans k.isLt⟩ hj⟩

/-- A taken jump that disables interrupts found a line requested. -/
theorem exists_lowestLine_of_takeJump_disables {s : State} {target : Word} (hen : s.intDisabled = false)
    (hdis : (takeJump s target).intDisabled = true) : ∃ k, LowestLine (offered s) k := by
  rcases takeJump_cases s target with ⟨hs, _⟩ | ⟨_, _, hquiet⟩ | ⟨k, _, hk, _⟩
  · simp [hen] at hs
  · simp [hquiet, hen] at hdis
  · exact ⟨k, lowestLine_of_firstLine hk⟩

/-- Settles O14: of the forms a next state can have only a taken jump's sets int_disabled, and `jumpResult_takeJump` says what it then
leaves. -/
theorem handlerIsEnteredOnlyByTakenJumps : Obligations.HandlerIsEnteredOnlyByTakenJumps := by
  intro i s t h hen hdis
  cases exec_next h with
  | jump target _ _ _ hjump =>
    obtain ⟨k, hk⟩ := exists_lowestLine_of_takeJump_disables hen hdis
    obtain ⟨hpc, _, _, hid, _⟩ := (jumpResult_takeJump s target).taken k hen hk
    exact ⟨hjump, hpc, k, hk, hid⟩
  | reg | deviceRead | pop | push | freg | store | deviceWrite | internalWrite | untaken | ccache | reti => simp [hen] at hdis

/-! ## An interruption from the jump to RETI (R211) -/

/-- What is said of the state an instruction completes in holds of the state it is seen to complete in. -/
theorem of_completes {r : Res State} {P : State → Prop} {t : State} (h : ∃ u, r = .next u ∧ P u) (hr : r = .next t) : P t := by
  obtain ⟨u, hu, hP⟩ := h
  exact Host.Outcome.next.inj (hu.symm.trans hr) ▸ hP

/-- Settles O29, from the effects of the three instructions: the jump's target waits in PC_backup while INTID gives the line. -/
theorem interruptedJumpResumesAtItsTarget : Obligations.InterruptedJumpResumesAtItsTarget := by
  intro s t u v n d k hen hk hjump hintid hreti
  have jump : JumpResult s t (BitVec.ofNat 32 n.toNat) := of_completes (completes_as_jump rfl (jumpTarget_eq n)) hjump
  have intid : RegResult t u d (BitVec.ofNat 32 t.intId.toNat) := of_completes (intidReadsTheInterruptNumber t d) hintid
  obtain ⟨hpc, hbackup, _, hid, hpending, _⟩ := jump.taken k hen hk
  obtain ⟨hbackup', _, _, hpending', _⟩ := intid.interrupts
  obtain ⟨hvpc, hven, _, _, ⟨hpending'', _⟩, hregs, _, _, _, _, hmem⟩ := of_completes (retiReturnsToPcBackup u) hreti
  refine ⟨hpc, ?_, hven, fun r => ?_, fun j hj => ?_, fun a => ?_⟩
  · rw [hvpc, hbackup', hbackup]
  · rw [hregs r, intid.regs r, hid, jump.regs r]
  · rw [hpending'', hpending', hpending j hj]
  · rw [hmem a, intid.memory a, jump.memory a]

end Sys2Proof.Machine
end

section
/-! The statements of 70_reset_and_hazards.md: the step as fetch, decode and execute (R236), and the first step after reset (R230). Both
turn on the fetch of a word whose four bytes are known. -/

namespace Sys2Proof.Machine

/-! ## A coherent fetch (20_memory.md R33, R52) -/

theorem fetchWord_rom {s : State} (h4 : s.pc.toNat % 4 = 0) (h : InRom s.pc.toNat) :
    fetchWord s = .next (romWord s s.pc.toNat, s) := by
  rw [fetchWord, if_neg (not_not.2 h4), regionOf_rom.2 h]

/-- A word that no store has touched since the latest CCACHE has no former value (20_memory.md R52). -/
theorem formerValues_eq_nil {s : State} {a : Nat} (h : ∀ r ∈ s.storesSinceCcache, r.addr ≠ a) : formerValues s a = [] := by
  refine List.eq_nil_iff_forall_not_mem.2 fun v hv => ?_
  obtain ⟨r, hr, haddr, _⟩ := mem_formerValues.1 hv
  exact h r hr haddr

/-- A coherent fetch reads the four bytes at `pc` and leaves the state as it is (20_memory.md R34, R52). -/
theorem fetchWord_of_bytes {s : State} {b0 b1 b2 b3 : Byte} (h4 : s.pc.toNat % 4 = 0)
    (hplace : InRom s.pc.toNat ∨ (InSdram s.pc.toNat ∧ ∀ r ∈ s.storesSinceCcache, r.addr ≠ s.pc.toNat))
    (h0 : readByte s s.pc.toNat = some b0) (h1 : readByte s (s.pc.toNat + 1) = some b1)
    (h2 : readByte s (s.pc.toNat + 2) = some b2) (h3 : readByte s (s.pc.toNat + 3) = some b3) :
    fetchWord s = .next (wordOfBytes b0 b1 b2 b3, s) := by
  rcases hplace with hrom | ⟨hsdram, huntouched⟩
  · rw [fetchWord_rom h4 hrom, romWord_of_bytes h4 (regionOf_rom.2 hrom) h0 h1 h2 h3]
  · rw [fetchWord_sdram h4 hsdram, fetchSdram_coherent (formerValues_eq_nil huntouched),
      loadWord_of_bytes h4 (regionOf_sdram.2 hsdram) h0 h1 h2 h3, fetched]

/-! ## The step after its fetch (R236) -/

theorem step_of_fetchWord_next {s t : State} {w : Word} (h : fetchWord s = .next (w, t)) : step s = runWord w t := by
  rw [step, h, andThen_ok]

theorem runWord_of_decodeWord {w : Word} {i : Instr} (h : decodeWord w = .ok i) (s : State) : runWord w s = exec i s := by
  rw [runWord, h]

/-- Four bytes decode as the word they make does (30_encoding.md R60). -/
theorem decodeWord_of_decode {b0 b1 b2 b3 : Byte} {i : Instr} (h : decode [b0, b1, b2, b3] = .ok (i, [])) :
    decodeWord (wordOfBytes b0 b1 b2 b3) = .ok i := by
  rw [decode] at h
  cases hw : decodeWord (wordOfBytes b0 b1 b2 b3) with
  | error e => simp [hw] at h
  | ok j => simpa [hw] using h

/-- Settles O1: the fetch gives the word of the four bytes and the same state, and that word decodes to `i`. -/
theorem stepRunsDecodedInstruction : Obligations.StepRunsDecodedInstruction := by
  intro s i b0 b1 b2 b3 h4 hplace h0 h1 h2 h3 hdec
  calc step s = runWord (wordOfBytes b0 b1 b2 b3) s := step_of_fetchWord_next (fetchWord_of_bytes h4 hplace h0 h1 h2 h3)
    _ = exec i s := runWord_of_decodeWord (decodeWord_of_decode hdec) s

/-! ## The first step (R230) -/

/-- The start address, whatever image of the ROM the launch gives. -/
theorem toNat_reset_setRom_pc (r : Memory) : (State.reset.setRom r).pc.toNat = 0x1E000000 := rfl

/-- Settles O8: `pc` is at the first word of the ROM, whose four bytes have a value in every image. -/
theorem resetStartsAtBootRom : Obligations.ResetStartsAtBootRom := by
  refine ⟨rfl, fun r => ?_⟩
  have hrom : InRom 0x1E000000 := by simp [InRom]
  have hbyte : ∀ k, k < 4 → readByte (State.reset.setRom r) (0x1E000000 + k) =
      some (romByte (State.reset.setRom r) (0x1E000000 + k)) := fun k hk =>
    readByte_rom _ (word_stays_in_rom (by decide) (regionOf_rom.2 hrom) (by omega) (by omega))
  have hfetch := fetchWord_of_bytes (s := State.reset.setRom r) (by rw [toNat_reset_setRom_pc])
    (.inl (toNat_reset_setRom_pc r ▸ hrom)) (hbyte 0 (by decide)) (hbyte 1 (by decide)) (hbyte 2 (by decide))
    (hbyte 3 (by decide))
  exact ⟨_, _, _, _, hbyte 0 (by decide), hbyte 1 (by decide), hbyte 2 (by decide), hbyte 3 (by decide),
    step_of_fetchWord_next hfetch⟩

end Sys2Proof.Machine
end
